-- ==== Sys2Proof/Word.lean ====
section
/-! DEFINITION. The two widths of the machine (R7, R20, R22): a byte of 8 bits and a word of 16 bits. -/

namespace Sys2Proof

abbrev Byte := BitVec 8

abbrev Word := BitVec 16

end Sys2Proof
end

