-- ==== Sys2Proof/Machine/Bits.lean ====
section
/-! DEFINITION. Bit-field, sign-extension and byte-order helpers (R7, R21, R78, R106). -/

namespace Sys2Proof

/-- `lo(w) = w[7:0]` (R7). -/
def lo (w : Word) : Byte := w.extractLsb' 0 8

/-- `hi(w) = w[15:8]` (R7). -/
def hi (w : Word) : Byte := w.extractLsb' 8 8

/-- `h ++ l`, the first byte in the upper bits (R7): pairs (R21) and words in memory, low byte first (R78). -/
def word (h l : Byte) : Word := h ++ l

/-- `sext_16(e)` (R106). -/
def sext (e : Byte) : Word := e.signExtend 16

/-- `zext_16(v)` (R7). -/
def zext (v : Byte) : Word := v.setWidth 16

/-- One bit value in `k` positions. -/
def fill (k : Nat) (b : Bool) : BitVec k := if b then BitVec.allOnes k else 0

/-- A flag as one bit. -/
def flagBit (b : Bool) : BitVec 1 := BitVec.ofBool b

end Sys2Proof
end

