-- ==== Sys2Proof/Machine/Forms.lean ====
section
/-! DEFINITION. The closed set of operand locations (R102, R130) and the instruction forms built from them (R103). The
opcode table names each register form as a row of its own; a form says what the rows of one shape have in common. -/

namespace Sys2Proof

/-- The seven general registers (R20). -/
inductive Reg8 where
  | b | c | d | e | h | l | a
deriving DecidableEq, Repr

/-- The `r` table of R102: a register, or the memory byte at address `HL` (code 6). -/
inductive R8 where
  | reg (r : Reg8)
  | atHL
deriving DecidableEq, Repr

/-- The memory operands of the loads of `A` (R130): through a pair, with `HL` moved after the access, at an absolute
address, in the I/O page through `C` or through an immediate. -/
inductive AccMem where
  | bc | de | hlInc | hlDec
  | abs (nn : Word)
  | ioC
  | io (n : Byte)
deriving DecidableEq, Repr

/-- The `rr` table of R102. -/
inductive Pair where
  | bc | de | hl | sp
deriving DecidableEq, Repr

/-- The `qq` table of R102. -/
inductive StackPair where
  | bc | de | hl | af
deriving DecidableEq, Repr

/-- The `cc` table of R102. -/
inductive Cond where
  | nz | z | nc | c
deriving DecidableEq, Repr

/-- The `alu` table of R102. -/
inductive AluOp where
  | add | adc | sub | sbc | and | xor | or | cp
deriving DecidableEq, Repr

/-- The `rot` table of R102. -/
inductive RotOp where
  | rlc | rrc | rl | rr | sla | sra | swap | srl
deriving DecidableEq, Repr

/-- The instruction forms. `ld d s` is the pattern `01dddsss` (R131, R133, R134); of its 64 combinations `(HL),(HL)` is no
instruction (R113: that byte is `HALT`). `undefined op` is a form for the eleven bytes of R110 only. -/
inductive Form where
  | ld (d s : R8)
  | ldImm (d : R8) (n : Byte)
  | ldA (m : AccMem)
  | stA (m : AccMem)
  | ldPair (rr : Pair) (nn : Word)
  | ldNnSP (nn : Word)
  | ldSPHL
  | ldHLSPe (e : Byte)
  | push (qq : StackPair)
  | pop (qq : StackPair)
  | alu (op : AluOp) (s : R8)
  | aluImm (op : AluOp) (n : Byte)
  | inc (d : R8)
  | dec (d : R8)
  | daa | cpl | scf | ccf
  | addHL (rr : Pair)
  | incPair (rr : Pair)
  | decPair (rr : Pair)
  | addSP (e : Byte)
  | rlca | rrca | rla | rra
  | rot (k : RotOp) (s : R8)
  | bit (b : BitVec 3) (s : R8)
  | res (b : BitVec 3) (s : R8)
  | set (b : BitVec 3) (s : R8)
  | jp (nn : Word)
  | jpCC (cc : Cond) (nn : Word)
  | jpHL
  | jr (e : Byte)
  | jrCC (cc : Cond) (e : Byte)
  | call (nn : Word)
  | callCC (cc : Cond) (nn : Word)
  | ret
  | retCC (cc : Cond)
  | reti
  | rst (t : BitVec 3)
  | nop | halt
  | stop (n : Byte)
  | di | ei
  | prefixCB (op2 : Byte)
  | undefined (op : Byte)
deriving DecidableEq, Repr

end Sys2Proof
end

