-- ==== Sys2Proof/Config.lean ====
section
/-! DEFINITION. What is fixed for one machine and left open by the spec: the parameters of R6 (a plain record, held in State so
that a claim over every state quantifies over them, log 2) and the free values, constants with no body. -/

namespace Sys2Proof

/-- `RESET_PROFILE` (R44). -/
inductive ResetProfile where
  | boot | postBoot
deriving DecidableEq, Repr

/-- `UNMAPPED_POLICY` (R74). -/
inductive UnmappedPolicy where
  | fault | openBus
deriving DecidableEq, Repr

/-- `STOP_POLICY` (R262). -/
inductive StopPolicy where
  | stop | fault
deriving DecidableEq, Repr

/-- `CART` (R82 to R84): the ROM-only variant, or any other one, of which the spec gives only the port (log 8). -/
inductive CartVariant where
  | romOnly
  | other (variant : Nat)
deriving DecidableEq, Repr

/-- The parameters of R6. `ROM` is not here: its bytes are cells of the memory below `0x8000` (log 3). `bootRom` is none where
there is none (R396), else the cells of its 256 bytes that are not `0xFF` (log 7). `ramInit` lists the RAM bytes that are not `0x00`
at reset (R394). -/
structure Params where
  resetProfile : ResetProfile
  unusedReadBits : Bool
  unmappedPolicy : UnmappedPolicy
  stopPolicy : StopPolicy
  oamCycles : Nat
  xferCycles : Nat
  hblankCycles : Nat
  vblankLineCycles : Nat
  totalLines : Nat
  cart : CartVariant
  bootRom : Option (List Host.Cell)
  ramInit : List Host.Cell
deriving DecidableEq, Repr

/-- The defaults of R6. -/
def Params.default : Params where
  resetProfile := .boot
  unusedReadBits := true
  unmappedPolicy := .fault
  stopPolicy := .stop
  oamCycles := 20
  xferCycles := 43
  hblankCycles := 51
  vblankLineCycles := 114
  totalLines := 154
  cart := .romOnly
  bootRom := none
  ramInit := []

/-- `VISIBLE_LINES`, fixed (R6, R355). -/
def visibleLines : Nat := 144

/-- The PPU's timing parameters as R352 and R356 require them: no budget of 0, and `TOTAL_LINES` above `VISIBLE_LINES`
(93_implementation_defined.md U22). More lines than the 8 bits of `ly` can number are refused too (log 15). -/
def Params.timingOk (p : Params) : Bool :=
  decide (1 ≤ p.oamCycles ∧ 1 ≤ p.xferCycles ∧ 1 ≤ p.hblankCycles ∧ 1 ≤ p.vblankLineCycles ∧
    visibleLines < p.totalLines ∧ p.totalLines ≤ 256)

/-- The configurations that are not refused (U22; U17: profile `boot` without a `BOOT_ROM`). -/
def Params.acceptable (p : Params) : Bool :=
  p.timingOk && (p.resetProfile == .postBoot || p.bootRom.isSome)

/-- A framebuffer cell that nothing has drawn yet (R40, R393: unspecified; log 6). -/
opaque Config.undrawnPixel : (x y : Nat) → BitVec 2

/-- The port of a cartridge other than ROM-only (R82, R84; log 8): its state after reset, `read_rom_bank1`, `read_ram` and
`write_ram` while its RAM is enabled, and `write_control`, which says whether the RAM is enabled after it. -/
opaque Config.cartReset : (variant : Nat) → List Byte

opaque Config.cartRomBank1 : (variant : Nat) → (banking : List Byte) → (addr : Word) → Byte

opaque Config.cartReadRam : (variant : Nat) → (banking : List Byte) → (addr : Word) → Byte

opaque Config.cartWriteRam : (variant : Nat) → (banking : List Byte) → (addr : Word) → (v : Byte) → List Byte

opaque Config.cartWriteControl :
    (variant : Nat) → (ramEnabled : Bool) → (banking : List Byte) → (addr : Word) → (v : Byte) → Bool × List Byte

end Sys2Proof
end

