-- ==== Sys2Proof/Machine/Memory.lean ====
section
/-! DEFINITION. Memory as plain data: cells (bus address, byte) in one canonical form. It holds the ROM image below `0x8000`
(log 3) and the four RAMs at their bus addresses (R34, R35): video memory, work RAM, sprite attributes, high RAM. -/

namespace Sys2Proof.Machine

abbrev Memory := List Host.Cell

/-- What an unlisted address reads as: past the end of the ROM image `0xFF` (R69, R83); a RAM byte `0x00`, the default of
`RAM_INIT` (R394, log 4). -/
def unlisted (a : Nat) : Byte := if a < 0x8000 then 0xFF else 0x00

/-- The byte of the first cell listed at an address. -/
def Memory.lookup : Memory → Nat → Byte
  | [], a => unlisted a
  | (b, w) :: m, a => if b = a then w else Memory.lookup m a

/-- A cell put before the first one with a greater address. -/
def Memory.insert : Memory → Nat → Byte → Memory
  | [], a, v => [(a, v)]
  | (b, w) :: m, a, v => if a < b then (a, v) :: (b, w) :: m else (b, w) :: Memory.insert m a v

/-- One byte replaced; writing what an unlisted address reads as removes the cell. -/
def Memory.store (m : Memory) (a : Nat) (v : Byte) : Memory :=
  let rest := m.filter fun c => c.1 ≠ a
  if v = unlisted a then rest else Memory.insert rest a v

/-- One byte at a bus address. -/
def Memory.read (m : Memory) (a : Word) : Byte := Memory.lookup m a.toNat

/-- One byte written at a bus address. -/
def Memory.write (m : Memory) (a : Word) (v : Byte) : Memory := Memory.store m a.toNat v

/-- The canonical form: addresses of the 16-bit space (R60), strictly rising, no cell equal to what an unlisted address reads as.
`lowest` is the least address the first cell may have. -/
def Memory.wfFrom : Nat → Memory → Bool
  | _, [] => true
  | lowest, (a, v) :: m => decide (lowest ≤ a ∧ a < 0x10000 ∧ v ≠ unlisted a) && Memory.wfFrom (a + 1) m

def Memory.wf (m : Memory) : Bool := Memory.wfFrom 0 m

/-- The addresses of the four RAMs (R34, R35). -/
def isRam (a : Nat) : Bool :=
  decide (0x8000 ≤ a ∧ a < 0xA000) || decide (0xC000 ≤ a ∧ a < 0xE000) ||
    decide (0xFE00 ≤ a ∧ a < 0xFEA0) || decide (0xFF80 ≤ a ∧ a < 0xFFFF)

/-- The memory after reset: the ROM image of an earlier memory, which reset leaves (R390), and `RAM_INIT` (R394). -/
def Memory.reset (m : Memory) (ramInit : List Host.Cell) : Memory :=
  ramInit.foldl (fun m c => if isRam c.1 then Memory.store m c.1 c.2 else m)
    (m.filter fun c => c.1 < 0x8000)

end Sys2Proof.Machine
end

