-- ==== Sys2Proof/Machine/State.lean ====
section
/-! DEFINITION. All the state the spec gives the machine (10_state.md), as plain data, and its reset values (R44). -/

namespace Sys2Proof.Machine

/-- The four flags of `F` (R24). -/
structure Flags where
  z : Bool
  n : Bool
  h : Bool
  c : Bool
deriving DecidableEq, Repr

/-- The register file and the CPU's control state (R20 to R27). The pairs are views (R21), in Registers.lean. -/
structure Cpu where
  a : Byte
  b : Byte
  c : Byte
  d : Byte
  e : Byte
  h : Byte
  l : Byte
  flags : Flags
  sp : Word
  pc : Word
  ime : Bool
  eiPending : Bool
  halted : Bool
  stopped : Bool
deriving DecidableEq, Repr

/-- The two masks of the interrupt controller (R29); bit 0 vblank, 1 video-STAT, 2 timer, 3 serial, 4 joypad. -/
structure Irq where
  ie : BitVec 5
  if_ : BitVec 5
deriving DecidableEq, Repr

/-- The timer and divider (R30). -/
structure Timer where
  counter : Word
  tima : Byte
  tma : Byte
  tac : BitVec 3
deriving DecidableEq, Repr

/-- The OAM DMA controller (R31). -/
structure Dma where
  src : Byte
  off : Byte
  active : Bool
deriving DecidableEq, Repr

/-- The four PPU modes (R33). -/
inductive PpuMode where
  | hblank | vblank | oamScan | transfer
deriving DecidableEq, Repr

/-- The PPU's registers and internal state (R32, R33, R340 to R347). `statEn` holds bits 6..3 of STAT (R341); `modeCtr` is the
remaining-cycle counter, a number of no fixed width (log 14). -/
structure Ppu where
  lcdc : Byte
  statEn : BitVec 4
  lycFlag : Bool
  mode : PpuMode
  modeCtr : Nat
  ly : Byte
  lyc : Byte
  scy : Byte
  scx : Byte
  wy : Byte
  wx : Byte
  bgp : Byte
  obp0 : Byte
  obp1 : Byte
deriving DecidableEq, Repr

/-- The joypad port (R37): bit 0 Right, 1 Left, 2 Up, 3 Down, 4 A, 5 B, 6 Select, 7 Start; `sel` bit 1 is `joy_sel[1]`. -/
structure Joypad where
  pressed : Byte
  sel : BitVec 2
deriving DecidableEq, Repr

/-- The serial stub (R38, R328): `scStart` and `scClock` are bits 7 and 0 of `sc`. -/
structure Serial where
  sb : Byte
  scStart : Bool
  scClock : Bool
deriving DecidableEq, Repr

/-- The cartridge variant's own state (R39, R82). The ROM-only variant has none and leaves both fields as they are (R83). -/
structure CartState where
  ramEnabled : Bool
  banking : List Byte
deriving DecidableEq, Repr

/-- The pixel sink (R40): the lines drawn so far as (line, its 160 shades), lines rising (log 16), and the count of `vsync`. -/
structure Sink where
  fb : List (Nat × List (BitVec 2))
  vsyncs : Nat
deriving DecidableEq, Repr

/-- The registers a fault records (R290). -/
structure Snapshot where
  a : Byte
  flags : Flags
  b : Byte
  c : Byte
  d : Byte
  e : Byte
  h : Byte
  l : Byte
  sp : Word
  pc : Word
  ime : Bool
deriving DecidableEq, Repr

/-- The two opcode spaces (R290). -/
inductive Space where
  | standard | extended
deriving DecidableEq, Repr

/-- The direction of an access (R290). -/
inductive Dir where
  | read | write
deriving DecidableEq, Repr

/-- A fault record (R290), kinds 1 and 2. The spec makes a fault state of the machine, latched for the host to read while every
later step does nothing (R28, R270), so taking one is a next state and no step answers `Host.Outcome.fault` (log 1). -/
inductive Fault where
  /-- Raised by the eleven undefined bytes (R266, R291) and by `STOP` under `STOP_POLICY = fault` (R262); never for the extended
  space, whose name the spec keeps (R267). Safe: the machine stops as the spec says. -/
  | undefinedOpcode (space : Space) (op : Byte) (snapshot : Snapshot)
  /-- Raised by a read or write of `0xE000..0xFDFF` or `0xFEA0..0xFEFF` under `UNMAPPED_POLICY = fault`, by the CPU or by the DMA
  engine's source read (R74, R292). Safe: the machine stops as the spec says. -/
  | unsupportedAddress (addr : Word) (dir : Dir) (snapshot : Snapshot)
deriving DecidableEq, Repr

/-- Why a step has no meaning. -/
inductive Refusal where
  /-- An instruction with no meaning yet, by its mnemonic. No arm of this model answers it. Safe. -/
  | notModelled (mnemonic : String)
  /-- Answered by `step` for a configuration the spec refuses before the first step (U17, U22; log 2, log 15). Safe. -/
  | configuration
deriving DecidableEq, Repr

/-- The whole machine. `params` is fixed: no step writes it (log 2). -/
structure State where
  cpu : Cpu
  irq : Irq
  timer : Timer
  dma : Dma
  ppu : Ppu
  joypad : Joypad
  serial : Serial
  bootActive : Bool
  cart : CartState
  mem : Memory
  sink : Sink
  fault : Option Fault
  params : Params
deriving DecidableEq, Repr

/-- R44, the CPU rows, by profile. -/
def Cpu.reset : ResetProfile → Cpu
  | .boot =>
    { a := 0x00, b := 0x00, c := 0x00, d := 0x00, e := 0x00, h := 0x00, l := 0x00,
      flags := ⟨false, false, false, false⟩, sp := 0x0000, pc := 0x0000,
      ime := false, eiPending := false, halted := false, stopped := false }
  | .postBoot =>
    { a := 0x01, b := 0x00, c := 0x13, d := 0x00, e := 0xD8, h := 0x01, l := 0x4D,
      flags := ⟨true, false, true, true⟩, sp := 0xFFFE, pc := 0x0100,
      ime := false, eiPending := false, halted := false, stopped := false }

/-- R44, the PPU rows. -/
def Ppu.reset (p : Params) : Ppu :=
  { lcdc := match p.resetProfile with | .boot => 0x00 | .postBoot => 0x91
    statEn := 0, lycFlag := false, mode := .oamScan, modeCtr := p.oamCycles
    ly := 0x00, lyc := 0x00, scy := 0x00, scx := 0x00, wy := 0x00, wx := 0x00
    bgp := match p.resetProfile with | .boot => 0x00 | .postBoot => 0xFC
    obp0 := 0x00, obp1 := 0x00 }

/-- The cartridge variant's own reset value (R39, R82; log 8). -/
def CartState.reset : CartVariant → CartState
  | .romOnly => ⟨false, []⟩
  | .other v => ⟨false, Config.cartReset v⟩

/-- `Reset(params)` (R390, R44). `mem` gives the ROM image, which is no state and stays (R390); the framebuffer is the host's and
is given as it is (R393, log 18). -/
def State.resetWith (p : Params) (mem : Memory) (fb : List (Nat × List (BitVec 2))) : State where
  cpu := Cpu.reset p.resetProfile
  irq := ⟨0, 0⟩
  timer := ⟨0, 0, 0, 0⟩
  dma := ⟨0, 0, false⟩
  ppu := Ppu.reset p
  joypad := ⟨0x00, 0b11⟩
  serial := ⟨0x00, false, false⟩
  bootActive := match p.resetProfile with | .boot => true | .postBoot => false
  cart := CartState.reset p.cart
  mem := Memory.reset mem p.ramInit
  sink := ⟨fb, 0⟩
  fault := none
  params := p

/-- The machine right after reset with the default parameters of R6: profile `boot`, no program placed, nothing drawn. -/
def State.reset : State := State.resetWith Params.default [] []

end Sys2Proof.Machine
end

