-- ==== Sys2Proof/Machine/Flags.lean ====
section
/-! DEFINITION. The ALU: every result and flag computation of R160, R189 to R192, R200, R201, R210, R231. -/

namespace Sys2Proof.Machine

/-- The low nibble as a number. -/
def nibble (v : Byte) : Nat := (v.extractLsb' 0 4).toNat

/-- `Add8(a, b, cin)` (R160): a 9-bit sum. -/
def add8 (a b : Byte) (cin : Bool) : Byte × Flags :=
  let t : BitVec 9 := a.setWidth 9 + b.setWidth 9 + (flagBit cin).setWidth 9
  let r := t.extractLsb' 0 8
  (r, { z := r == 0, n := false, h := decide (0xF < nibble a + nibble b + cin.toNat), c := t.getLsbD 8 })

/-- `Sub8(a, b, cin)` (R160): borrows compared as integers. -/
def sub8 (a b : Byte) (cin : Bool) : Byte × Flags :=
  let r := a - b - (flagBit cin).setWidth 8
  (r, { z := r == 0, n := true, h := decide (nibble a < nibble b + cin.toNat)
        c := decide (a.toNat < b.toNat + cin.toNat) })

/-- `And8(a, b)` (R160). -/
def and8 (a b : Byte) : Byte × Flags :=
  let r := a &&& b
  (r, { z := r == 0, n := false, h := true, c := false })

/-- `Xor8(a, b)` (R160). -/
def xor8 (a b : Byte) : Byte × Flags :=
  let r := a ^^^ b
  (r, { z := r == 0, n := false, h := false, c := false })

/-- `Or8(a, b)` (R160). -/
def or8 (a b : Byte) : Byte × Flags :=
  let r := a ||| b
  (r, { z := r == 0, n := false, h := false, c := false })

/-- The eight two-operand operations on `A`; the result of `CP` is `A` itself (R161 to R184). -/
def aluOp (op : AluOp) (a b : Byte) (carry : Bool) : Byte × Flags :=
  match op with
  | .add => add8 a b false
  | .adc => add8 a b carry
  | .sub => sub8 a b false
  | .sbc => sub8 a b carry
  | .and => and8 a b
  | .xor => xor8 a b
  | .or => or8 a b
  | .cp => (a, (sub8 a b false).2)

/-- `Inc8(a)`; `C` is left as it was (R160). -/
def increment8 (a : Byte) (f : Flags) : Byte × Flags :=
  let r := a + 1
  (r, { z := r == 0, n := false, h := nibble a == 0xF, c := f.c })

/-- `Dec8(a)`; `C` is left as it was (R160). -/
def decrement8 (a : Byte) (f : Flags) : Byte × Flags :=
  let r := a - 1
  (r, { z := r == 0, n := true, h := nibble a == 0x0, c := f.c })

/-- The adjustment of `DAA` and its carry (R189). -/
def daaAdjust (a : Byte) (f : Flags) : Byte × Bool :=
  let low : Bool := if f.n then f.h else f.h || decide (9 < nibble a)
  let high : Bool := if f.n then f.c else f.c || decide (0x99 < a.toNat)
  ((if low then 0x06 else 0x00) ||| (if high then 0x60 else 0x00), high)

/-- `DAA` (R189). -/
def daa8 (a : Byte) (f : Flags) : Byte × Flags :=
  let (adj, c) := daaAdjust a f
  let r := if f.n then a - adj else a + adj
  (r, { z := r == 0, n := f.n, h := false, c := c })

/-- The rotate and shift functions: result and the bit shifted out (R210). -/
def rotOp (k : RotOp) (v : Byte) (carry : Bool) : Byte × Bool :=
  match k with
  | .rlc => (v.extractLsb' 0 7 ++ v.extractLsb' 7 1, v.getLsbD 7)
  | .rrc => (v.extractLsb' 0 1 ++ v.extractLsb' 1 7, v.getLsbD 0)
  | .rl => (v.extractLsb' 0 7 ++ flagBit carry, v.getLsbD 7)
  | .rr => (flagBit carry ++ v.extractLsb' 1 7, v.getLsbD 0)
  | .sla => (v.extractLsb' 0 7 ++ 0#1, v.getLsbD 7)
  | .sra => (v.extractLsb' 7 1 ++ v.extractLsb' 1 7, v.getLsbD 0)
  | .swap => (v.extractLsb' 0 4 ++ v.extractLsb' 4 4, false)
  | .srl => (0#1 ++ v.extractLsb' 1 7, v.getLsbD 0)

/-- Flags after a rotate or shift of the extended space (R210). -/
def rotFlags (r : Byte) (c : Bool) : Flags := { z := r == 0, n := false, h := false, c := c }

/-- Flags after a rotate of `A` in the standard space: `Z` is cleared (R210). -/
def rotAFlags (c : Bool) : Flags := { z := false, n := false, h := false, c := c }

/-- Flags after `BIT b` (R231). -/
def bitFlags (v : Byte) (b : BitVec 3) (f : Flags) : Flags :=
  { z := !v.getLsbD b.toNat, n := false, h := true, c := f.c }

/-- `1 << b` (R233, R235). -/
def bitMask (b : BitVec 3) : Byte := 1#8 <<< b.toNat

/-- `SpPlusE(e)`: the sum with `e` signed, the carries of the unsigned low-byte sum (R200). -/
def spPlusE (sp : Word) (e : Byte) : Word × Flags :=
  (sp + sext e,
    { z := false, n := false
      h := decide (0xF < nibble (lo sp) + nibble e)
      c := decide (0xFF < (lo sp).toNat + e.toNat) })

/-- The sum of `ADD HL,rr` and its flags: carries out of bits 11 and 15, `Z` left as it was (R201). -/
def add16 (a b : Word) (f : Flags) : Word × Flags :=
  let t : BitVec 17 := a.setWidth 17 + b.setWidth 17
  (t.extractLsb' 0 16,
    { z := f.z, n := false
      h := decide (0xFFF < (a.extractLsb' 0 12).toNat + (b.extractLsb' 0 12).toNat)
      c := t.getLsbD 16 })

end Sys2Proof.Machine
end

