-- ==== Sys2Proof/Machine/Update.lean ====
section
/-! DEFINITION. The state with one unit's state replaced. -/

namespace Sys2Proof.Machine

def State.setCpu (s : State) (k : Cpu) : State := { s with cpu := k }

def State.setIrq (s : State) (q : Irq) : State := { s with irq := q }

def State.setTimer (s : State) (t : Timer) : State := { s with timer := t }

def State.setDma (s : State) (d : Dma) : State := { s with dma := d }

def State.setPpu (s : State) (p : Ppu) : State := { s with ppu := p }

def State.setJoypad (s : State) (j : Joypad) : State := { s with joypad := j }

def State.setSerial (s : State) (p : Serial) : State := { s with serial := p }

def State.setBootActive (s : State) (b : Bool) : State := { s with bootActive := b }

def State.setCart (s : State) (c : CartState) : State := { s with cart := c }

def State.setMem (s : State) (m : Memory) : State := { s with mem := m }

def State.setSink (s : State) (k : Sink) : State := { s with sink := k }

def State.setFault (s : State) (f : Option Fault) : State := { s with fault := f }

def State.setParams (s : State) (p : Params) : State := { s with params := p }

end Sys2Proof.Machine
end

