-- ==== Sys2Proof/Machine/Cartridge.lean ====
section
/-! DEFINITION. The cartridge port (R82): four operations, reads that change nothing. The ROM-only variant is R83's; any other one
is uninterpreted but for what R84 states, that RAM never enabled reads `0xFF` and is not written (log 8). -/

namespace Sys2Proof.Machine

/-- `read_rom_bank1(addr)`. -/
def cartReadBank1 (s : State) (a : Word) : Byte :=
  match s.params.cart with
  | .romOnly => s.mem.read a
  | .other v => Config.cartRomBank1 v s.cart.banking a

/-- `read_ram(addr)`. -/
def cartReadRam (s : State) (a : Word) : Byte :=
  match s.params.cart with
  | .romOnly => 0xFF
  | .other v => if s.cart.ramEnabled then Config.cartReadRam v s.cart.banking a else 0xFF

/-- `write_control(addr, v)`. -/
def cartWriteControl (s : State) (a : Word) (x : Byte) : State :=
  match s.params.cart with
  | .romOnly => s
  | .other v =>
    let (enabled, banking) := Config.cartWriteControl v s.cart.ramEnabled s.cart.banking a x
    s.setCart ⟨enabled, banking⟩

/-- `write_ram(addr, v)`. -/
def cartWriteRam (s : State) (a : Word) (x : Byte) : State :=
  match s.params.cart with
  | .romOnly => s
  | .other v =>
    if s.cart.ramEnabled then
      s.setCart { s.cart with banking := Config.cartWriteRam v s.cart.banking a x }
    else s

end Sys2Proof.Machine
end

