-- ==== Sys2Proof/Machine/Interrupts.lean ====
section
/-! DEFINITION. The interrupt controller (R280 to R284). Taking an interrupt is in Ops.lean. -/

namespace Sys2Proof.Machine

/-- The five sources by bit number (R280). -/
inductive Source where
  | vblank | videoStat | timer | serial | joypad
deriving DecidableEq, Repr

def Source.bit : Source → Nat
  | .vblank => 0
  | .videoStat => 1
  | .timer => 2
  | .serial => 3
  | .joypad => 4

/-- The sources in priority order, highest first (R286). -/
def sources : List Source := [.vblank, .videoStat, .timer, .serial, .joypad]

/-- `1 << i` on the five bits. -/
def Source.mask (i : Source) : BitVec 5 := 1#5 <<< i.bit

/-- `RaiseInterrupt(i)` (R281). -/
def raiseInterrupt (i : Source) (s : State) : State :=
  s.setIrq { s.irq with if_ := s.irq.if_ ||| i.mask }

/-- `RaiseInterrupt(i)` under a condition. -/
def raiseIf (cond : Bool) (i : Source) (s : State) : State := if cond then raiseInterrupt i s else s

/-- `ResetInterrupt(i)` (R282); no rule calls it. -/
def resetInterrupt (i : Source) (s : State) : State :=
  s.setIrq { s.irq with if_ := s.irq.if_ &&& ~~~ i.mask }

/-- `ServiceAddress(i) = 0x0040 + 8 * i` (R284). -/
def serviceAddress (i : Source) : Word := 0x0040 + 8 * BitVec.ofNat 16 i.bit

/-- `ie & if_ & 0b11111` (R283, R270). -/
def State.requests (s : State) : BitVec 5 := s.irq.ie &&& s.irq.if_

/-- The source an acknowledge picks: enabled, pending, and of the least bit number (R283, R286). -/
def State.requested (s : State) : Option Source := sources.find? fun i => s.requests.getLsbD i.bit

/-- `AckInterrupt()` (R283): the service address, with that one pending bit cleared. -/
def ackInterrupt (s : State) : Option (Word × State) :=
  s.requested.map fun i => (serviceAddress i, resetInterrupt i s)

end Sys2Proof.Machine
end

