-- ==== Sys2Proof/Machine/Joypad.lean ====
section
/-! DEFINITION. The joypad port (R325). The host's button events are in HostEvents.lean. -/

namespace Sys2Proof.Machine

/-- The button nibble, 0 where a button of a selected column is held (R325). -/
def Joypad.nibble (j : Joypad) : BitVec 4 :=
  (if j.sel.getLsbD 0 then 0b1111 else ~~~ j.pressed.extractLsb' 0 4) &&&
    (if j.sel.getLsbD 1 then 0b1111 else ~~~ j.pressed.extractLsb' 4 4)

/-- A read of JOYP (R325). -/
def Joypad.read (j : Joypad) (unused : Bool) : Byte := fill 2 unused ++ j.sel ++ j.nibble

end Sys2Proof.Machine
end

