-- ==== Sys2Proof/Machine/Ppu.lean ====
section
/-! DEFINITION. The PPU: the scanline state machine (R352 to R361) and the renderer (R362 to R369). -/

namespace Sys2Proof.Machine

/-- The code of a mode in STAT (R33). -/
def PpuMode.code : PpuMode → BitVec 2
  | .hblank => 0
  | .vblank => 1
  | .oamScan => 2
  | .transfer => 3

/-- `budget(mode)` (R352). -/
def budget (p : Params) : PpuMode → Nat
  | .hblank => p.hblankCycles
  | .vblank => p.vblankLineCycles
  | .oamScan => p.oamCycles
  | .transfer => p.xferCycles

/-! The renderer reads video memory, `oam` and the PPU registers directly (R362). -/

/-- Where `vram` and `oam` begin on the bus (R34). -/
def vramBase : Word := 0x8000

def oamBase : Word := 0xFE00

def State.vram (s : State) (i : Nat) : Byte := s.mem.read (vramBase + BitVec.ofNat 16 i)

def State.oam (s : State) (i : Nat) : Byte := s.mem.read (oamBase + BitVec.ofNat 16 i)

/-- `TileNumber(idx)` (R364; 90_conflicts.md C6). -/
def tileNumber (s : State) (idx : Byte) : Nat :=
  if s.ppu.lcdc.getLsbD 4 then idx.toNat else (256 + idx.toInt).toNat

/-- `TilePixel(t, r, c)`: the 2-bit colour index (R365). -/
def tilePixel (s : State) (t r c : Nat) : BitVec 2 :=
  let low := s.vram (16 * t + 2 * r)
  let high := s.vram (16 * t + 2 * r + 1)
  flagBit (high.getLsbD (7 - c)) ++ flagBit (low.getLsbD (7 - c))

/-- `Shade(pal, ci) = pal[2ci + 1 : 2ci]` (R366). -/
def shade (pal : Byte) (ci : BitVec 2) : BitVec 2 := pal.extractLsb' (2 * ci.toNat) 2

/-- Offset in `vram` of a tile map (R340, R348). -/
def mapBase (second : Bool) : Nat := if second then 0x1C00 else 0x1800

/-- Whether screen column `x` of line `ly` is a window pixel (R363). -/
def inWindow (s : State) (x : Nat) : Bool :=
  s.ppu.lcdc.getLsbD 5 && decide (s.ppu.wy.toNat ≤ s.ppu.ly.toNat) && decide (s.ppu.wx.toNat ≤ x + 7)

/-- The colour index of pixel (`px`, `py`) of the plane of a tile map (R363). -/
def planePixel (s : State) (map px py : Nat) : BitVec 2 :=
  tilePixel s (tileNumber s (s.vram (map + 32 * (py / 8) + px / 8))) (py % 8) (px % 8)

/-- `BgPixel(x)`: colour index and shade (R363). -/
def bgPixel (s : State) (x : Nat) : BitVec 2 × BitVec 2 :=
  if s.ppu.lcdc.getLsbD 0 = false then (0, 0)
  else
    let ci :=
      if inWindow s x then
        planePixel s (mapBase (s.ppu.lcdc.getLsbD 6)) (x + 7 - s.ppu.wx.toNat) (s.ppu.ly.toNat - s.ppu.wy.toNat)
      else
        planePixel s (mapBase (s.ppu.lcdc.getLsbD 3)) ((x + s.ppu.scx.toNat) % 256)
          ((s.ppu.ly.toNat + s.ppu.scy.toNat) % 256)
    (ci, shade s.ppu.bgp ci)

/-- Sprite height (R367). -/
def spriteHeight (s : State) : Nat := if s.ppu.lcdc.getLsbD 2 then 16 else 8

/-- Whether entry `n` is drawn on line `ly`: `sy <= ly < sy + h` with `sy = y - 16` (R367). -/
def spriteOnLine (s : State) (n : Nat) : Bool :=
  decide ((s.oam (4 * n)).toNat ≤ s.ppu.ly.toNat + 16) &&
    decide (s.ppu.ly.toNat + 16 < (s.oam (4 * n)).toNat + spriteHeight s)

/-- The colour index entry `n` has at screen column `x`, none where its eight columns (`sx = x - 8` on) do not reach (R368). -/
def spritePixel (s : State) (n x : Nat) : Option (BitVec 2) :=
  let left := (s.oam (4 * n + 1)).toNat
  if left ≤ x + 8 ∧ x + 8 < left + 8 then
    let flags := s.oam (4 * n + 3)
    let tile := s.oam (4 * n + 2)
    let line := s.ppu.ly.toNat + 16 - (s.oam (4 * n)).toNat
    let row := if flags.getLsbD 6 then spriteHeight s - 1 - line else line
    let column := if flags.getLsbD 5 then 7 - (x + 8 - left) else x + 8 - left
    if s.ppu.lcdc.getLsbD 2 then some (tilePixel s ((tile &&& 0xFE).toNat + row / 8) (row % 8) column)
    else some (tilePixel s tile.toNat row column)
  else none

/-- `DrawSprite(n)` at one screen column: the shade over the one drawn before (R368). `bgci` is the background's colour index. -/
def drawSprite (s : State) (x : Nat) (bgci : BitVec 2) (n : Nat) (below : BitVec 2) : BitVec 2 :=
  if spriteOnLine s n then
    match spritePixel s n x with
    | none => below
    | some ci =>
      let flags := s.oam (4 * n + 3)
      if ci = 0 then below
      else if flags.getLsbD 7 ∧ bgci ≠ 0 then below
      else shade (if flags.getLsbD 4 then s.ppu.obp1 else s.ppu.obp0) ci
  else below

/-- The shade of screen column `x` of line `ly`: the background, then entries 39 down to 0, each over the last (R362, R369). -/
def pixelShade (s : State) (x : Nat) : BitVec 2 :=
  let (ci, under) := bgPixel s x
  if s.ppu.lcdc.getLsbD 1 then (List.range 40).foldr (drawSprite s x ci) under else under

/-- A line of the framebuffer replaced; lines stay in rising order (log 16). -/
def setLine : List (Nat × List (BitVec 2)) → Nat → List (BitVec 2) → List (Nat × List (BitVec 2))
  | [], y, row => [(y, row)]
  | (y', row') :: rest, y, row =>
    if y < y' then (y, row) :: (y', row') :: rest
    else if y = y' then (y, row) :: rest
    else (y', row') :: setLine rest y row

/-- `RenderLine()` (R362): `set_pixel(x, ly, shade[x])` for the 160 columns (R372). -/
def renderLine (s : State) : State :=
  s.setSink { s.sink with fb := setLine s.sink.fb s.ppu.ly.toNat ((List.range 160).map (pixelShade s)) }

/-- `fb[y][x]` as the host sees it (R40); a cell nothing has drawn is a free value (log 6). -/
def State.pixel (s : State) (x y : Nat) : BitVec 2 :=
  match s.sink.fb.lookup y with
  | some row => row.getD x (Config.undrawnPixel x y)
  | none => Config.undrawnPixel x y

/-- `sink.vsync()` (R372). -/
def vsync (s : State) : State := s.setSink { s.sink with vsyncs := s.sink.vsyncs + 1 }

/-! The scanline state machine. -/

/-- `LycCompare()` (R359). `statEn` bit 3 is bit 6 of STAT. -/
def lycCompare (s : State) : State :=
  let equal := s.ppu.ly == s.ppu.lyc
  raiseIf (equal && s.ppu.statEn.getLsbD 3) .videoStat (s.setPpu { s.ppu with lycFlag := equal })

/-- The STAT enable of a mode's entry: bits 3, 4, 5 of STAT are bits 0, 1, 2 of `statEn`; pixel-transfer has none (R357). -/
def statEnabled (p : Ppu) : PpuMode → Bool
  | .hblank => p.statEn.getLsbD 0
  | .vblank => p.statEn.getLsbD 1
  | .oamScan => p.statEn.getLsbD 2
  | .transfer => false

/-- `PpuEnter(m)` (R354, R357, R358). -/
def ppuEnter (m : PpuMode) (s : State) : State :=
  raiseIf (statEnabled s.ppu m) .videoStat <|
    raiseIf (m == .vblank) .vblank
      (s.setPpu { s.ppu with mode := m, modeCtr := budget s.params m })

/-- A scanline advance with its comparison (R353, R359). -/
def setScanline (line : Byte) (s : State) : State := lycCompare (s.setPpu { s.ppu with ly := line })

/-- The mode's budget set again without an entry (R353, v-blank). -/
def reloadBudget (s : State) : State :=
  s.setPpu { s.ppu with modeCtr := s.params.vblankLineCycles }

/-- The transition when the counter reaches zero (R353). -/
def ppuExpire (s : State) : State :=
  match s.ppu.mode with
  | .oamScan => ppuEnter .transfer s
  | .transfer => ppuEnter .hblank (renderLine s)
  | .hblank =>
    let s := setScanline (s.ppu.ly + 1) s
    if s.ppu.ly.toNat < visibleLines then ppuEnter .oamScan s else ppuEnter .vblank (vsync s)
  | .vblank =>
    if s.ppu.ly.toNat + 1 < s.params.totalLines then reloadBudget (setScanline (s.ppu.ly + 1) s)
    else ppuEnter .oamScan (setScanline 0 s)

/-- `PpuTick()` (R353). A counter already at 0 is no state a run reaches (log 14). -/
def ppuTick (s : State) : State :=
  if s.ppu.lcdc.getLsbD 7 = false then s
  else
    let s := s.setPpu { s.ppu with modeCtr := s.ppu.modeCtr - 1 }
    if s.ppu.modeCtr ≠ 0 then s else ppuExpire s

end Sys2Proof.Machine
end

