-- ==== Sys2Proof/Machine/Io.lean ====
section
/-! DEFINITION. The memory-mapped registers (R41), their unused bits (R76) and the side effects of their writes (R81). -/

namespace Sys2Proof.Machine

/-- The rows of R41. -/
inductive IoReg where
  | joyp | sb | sc | div | tima | tma | tac | if_
  | lcdc | stat | scy | scx | ly | lyc | dma | bgp | obp0 | obp1 | wy | wx
  | boot | ie
deriving DecidableEq, Repr

/-- The addresses of R41. An I/O-page address that is not here is unmapped (R75). -/
def ioTable : List (Word × IoReg) := [
  (0xFF00, .joyp), (0xFF01, .sb), (0xFF02, .sc), (0xFF04, .div), (0xFF05, .tima), (0xFF06, .tma),
  (0xFF07, .tac), (0xFF0F, .if_), (0xFF40, .lcdc), (0xFF41, .stat), (0xFF42, .scy), (0xFF43, .scx),
  (0xFF44, .ly), (0xFF45, .lyc), (0xFF46, .dma), (0xFF47, .bgp), (0xFF48, .obp0), (0xFF49, .obp1),
  (0xFF4A, .wy), (0xFF4B, .wx), (0xFF50, .boot), (0xFFFF, .ie)]

def ioRegAt (a : Word) : Option IoReg := ioTable.lookup a

/-- `UNUSED_READ_BITS` in `k` positions (R76). -/
def State.unused (s : State) (k : Nat) : BitVec k := fill k s.params.unusedReadBits

/-- The read column of R41. No read changes state (R81). -/
def readReg (s : State) : IoReg → Byte
  | .joyp => s.joypad.read s.params.unusedReadBits
  | .sb => s.serial.sb
  | .sc => flagBit s.serial.scStart ++ s.unused 6 ++ flagBit s.serial.scClock
  | .div => s.timer.counter.extractLsb' 6 8
  | .tima => s.timer.tima
  | .tma => s.timer.tma
  | .tac => s.unused 5 ++ s.timer.tac
  | .if_ => s.unused 3 ++ s.irq.if_
  | .lcdc => s.ppu.lcdc
  | .stat => s.unused 1 ++ s.ppu.statEn ++ flagBit s.ppu.lycFlag ++ s.ppu.mode.code
  | .scy => s.ppu.scy
  | .scx => s.ppu.scx
  | .ly => s.ppu.ly
  | .lyc => s.ppu.lyc
  | .dma => s.dma.src
  | .bgp => s.ppu.bgp
  | .obp0 => s.ppu.obp0
  | .obp1 => s.ppu.obp1
  | .wy => s.ppu.wy
  | .wx => s.ppu.wx
  | .boot => 0xFF
  | .ie => s.unused 3 ++ s.irq.ie

/-- `DmaInitialize(v)` (R317). -/
def dmaInitialize (v : Byte) (s : State) : State :=
  if s.dma.active then s else s.setDma ⟨v, 0, true⟩

/-- The write column of R41. -/
def writeReg (s : State) (r : IoReg) (v : Byte) : State :=
  match r with
  | .joyp => s.setJoypad { s.joypad with sel := v.extractLsb' 4 2 }
  | .sb => s.setSerial { s.serial with sb := v }
  | .sc => s.setSerial { s.serial with scStart := v.getLsbD 7, scClock := v.getLsbD 0 }
  | .div => s.setTimer { s.timer with counter := 0 }
  | .tima => s.setTimer { s.timer with tima := v }
  | .tma => s.setTimer { s.timer with tma := v }
  | .tac => s.setTimer { s.timer with tac := v.extractLsb' 0 3 }
  | .if_ => s.setIrq { s.irq with if_ := v.extractLsb' 0 5 }
  | .lcdc => s.setPpu { s.ppu with lcdc := v }
  | .stat => s.setPpu { s.ppu with statEn := v.extractLsb' 3 4 }
  | .scy => s.setPpu { s.ppu with scy := v }
  | .scx => s.setPpu { s.ppu with scx := v }
  | .ly => s
  | .lyc => s.setPpu { s.ppu with lyc := v }
  | .dma => dmaInitialize v s
  | .bgp => s.setPpu { s.ppu with bgp := v }
  | .obp0 => s.setPpu { s.ppu with obp0 := v }
  | .obp1 => s.setPpu { s.ppu with obp1 := v }
  | .wy => s.setPpu { s.ppu with wy := v }
  | .wx => s.setPpu { s.ppu with wx := v }
  | .boot => s.setBootActive false
  | .ie => s.setIrq { s.irq with ie := v.extractLsb' 0 5 }

/-- A read in the I/O page; unmapped addresses read `0xFF` (R75). -/
def ioRead (s : State) (a : Word) : Byte :=
  match ioRegAt a with
  | some r => readReg s r
  | none => 0xFF

/-- A write in the I/O page; unmapped addresses ignore it (R75). -/
def ioWrite (s : State) (a : Word) (v : Byte) : State :=
  match ioRegAt a with
  | some r => writeReg s r v
  | none => s

end Sys2Proof.Machine
end

