-- ==== Sys2Proof/Machine/Bus.lean ====
section
/-! DEFINITION. The dispatch of one byte access by address, with no tick: `RawRead` (R66) and `RawWrite` (R67). -/

namespace Sys2Proof.Machine

/-- The rows of R66 and R67 without the boot overlay. -/
inductive Region where
  | bank0 | bank1 | vram | cartRam | wram | unsupported | oam | io | hram
deriving DecidableEq, Repr

/-- The address ranges of R66. `0xFFFF` is dispatched like the I/O registers: it is one (R77). -/
def regionOf (a : Word) : Region :=
  let n := a.toNat
  if n < 0x4000 then .bank0
  else if n < 0x8000 then .bank1
  else if n < 0xA000 then .vram
  else if n < 0xC000 then .cartRam
  else if n < 0xE000 then .wram
  else if n < 0xFE00 then .unsupported
  else if n < 0xFEA0 then .oam
  else if n < 0xFF00 then .unsupported
  else if n < 0xFF80 then .io
  else if n < 0xFFFF then .hram
  else .io

/-- Whether an access to the address raises no fault (R74). -/
def State.supported (s : State) (a : Word) : Bool :=
  s.params.unmappedPolicy == .openBus || regionOf a != .unsupported

/-- Whether a read of the address goes to the boot overlay (R68). -/
def State.overlaid (s : State) (a : Word) : Bool := s.bootActive && decide (a.toNat < 0x100)

/-- The cells of `BOOT_ROM`, read like the ROM image (log 7). -/
def State.bootRom (s : State) : Memory := s.params.bootRom.getD []

/-- `BOOT_ROM[addr]` (R68). -/
def bootByte (s : State) (a : Word) : Byte := s.bootRom.read a

/-- What a read of the address returns where it raises no fault: the rows of R66 with `open_bus` in rows 7 and 9. -/
def State.busByte (s : State) (a : Word) : Byte :=
  if s.overlaid a then bootByte s a
  else
    match regionOf a with
    | .bank0 => s.mem.read a
    | .bank1 => cartReadBank1 s a
    | .vram => s.mem.read a
    | .cartRam => cartReadRam s a
    | .wram => s.mem.read a
    | .unsupported => 0xFF
    | .oam => if s.dma.active then 0xFF else s.mem.read a
    | .io => ioRead s a
    | .hram => s.mem.read a

/-- What a write of the address does where it raises no fault: the rows of R67 with `open_bus` in rows 5 and 7. The overlay does
not cover writes (R68). -/
def State.busWrite (s : State) (a : Word) (v : Byte) : State :=
  match regionOf a with
  | .bank0 => cartWriteControl s a v
  | .bank1 => cartWriteControl s a v
  | .vram => s.setMem (s.mem.write a v)
  | .cartRam => cartWriteRam s a v
  | .wram => s.setMem (s.mem.write a v)
  | .unsupported => s
  | .oam => if s.dma.active then s else s.setMem (s.mem.write a v)
  | .io => ioWrite s a v
  | .hram => s.setMem (s.mem.write a v)

/-- `RawRead(addr)` (R66); none where it raises `UnsupportedAddress`. -/
def rawRead (s : State) (a : Word) : Option Byte :=
  if s.supported a then some (s.busByte a) else none

/-- `RawWrite(addr, v)` (R67); none where it raises `UnsupportedAddress`. -/
def rawWrite (s : State) (a : Word) (v : Byte) : Option State :=
  if s.supported a then some (s.busWrite a v) else none

end Sys2Proof.Machine
end

