-- ==== Sys2Proof/Machine/Flow.lean ====
section
/-! DEFINITION. How a statement of a rule's pseudocode ends (R8, R9): it completes with a value, or a fault is raised in it and
the step ends there (R290, R293). -/

namespace Sys2Proof.Machine

/-- The answer of an instruction's meaning. -/
abbrev Result := Host.Outcome State Fault Refusal

inductive Flow (α : Type) where
  | done (v : α) (s : State)
  | raised (s : State)
deriving DecidableEq, Repr

/-- One statement after another; nothing follows a raise (R293). -/
def Flow.bind {α β : Type} (x : Flow α) (f : α → State → Flow β) : Flow β :=
  match x with
  | .done v s => f v s
  | .raised s => .raised s

/-- The state at the end, raised or not. -/
def Flow.state {α : Type} : Flow α → State
  | .done _ s => s
  | .raised s => s

/-- Whether no fault was raised. -/
def Flow.isDone {α : Type} : Flow α → Bool
  | .done _ _ => true
  | .raised _ => false

/-- The end of an instruction: a next state either way, with the fault latched in it if one was raised (R290, log 1). -/
def Flow.outcome {α : Type} (x : Flow α) : Result := .next x.state

end Sys2Proof.Machine
end

