-- ==== Sys2Proof/Machine/Registers.lean ====
section
/-! DEFINITION. The one place where registers are read and written: the general registers (R20), the pairs as views (R21), the
encoding of the flags (R24), `sp` and `pc` (R22, R23). -/

namespace Sys2Proof.Machine

/-- The byte encoding of the flags: `Z ++ N ++ H ++ C ++ 0b0000` (R24). -/
def Flags.encode (f : Flags) : Byte :=
  flagBit f.z ++ flagBit f.n ++ flagBit f.h ++ flagBit f.c ++ 0b0000#4

/-- The flags of a byte; bits 3..0 are dropped (R24). -/
def Flags.decode (v : Byte) : Flags :=
  ⟨v.getLsbD 7, v.getLsbD 6, v.getLsbD 5, v.getLsbD 4⟩

/-- `x[r]` (R20). -/
def Cpu.get (k : Cpu) : Reg8 → Byte
  | .a => k.a
  | .b => k.b
  | .c => k.c
  | .d => k.d
  | .e => k.e
  | .h => k.h
  | .l => k.l

/-- `x[r] <- v` (R20). -/
def Cpu.set (k : Cpu) (r : Reg8) (v : Byte) : Cpu :=
  match r with
  | .a => { k with a := v }
  | .b => { k with b := v }
  | .c => { k with c := v }
  | .d => { k with d := v }
  | .e => { k with e := v }
  | .h => { k with h := v }
  | .l => { k with l := v }

/-- The `rr` operands (R21, R22). -/
def Cpu.getPair (k : Cpu) : Pair → Word
  | .bc => word k.b k.c
  | .de => word k.d k.e
  | .hl => word k.h k.l
  | .sp => k.sp

/-- Writing a pair writes both bytes (R21). -/
def Cpu.setPair (k : Cpu) (rr : Pair) (v : Word) : Cpu :=
  match rr with
  | .bc => { k with b := hi v, c := lo v }
  | .de => { k with d := hi v, e := lo v }
  | .hl => { k with h := hi v, l := lo v }
  | .sp => { k with sp := v }

/-- The `qq` operands; the low byte of `AF` is the encoding of the flags (R21, R24). -/
def Cpu.getStackPair (k : Cpu) : StackPair → Word
  | .bc => word k.b k.c
  | .de => word k.d k.e
  | .hl => word k.h k.l
  | .af => word k.a k.flags.encode

def Cpu.setStackPair (k : Cpu) (qq : StackPair) (v : Word) : Cpu :=
  match qq with
  | .bc => { k with b := hi v, c := lo v }
  | .de => { k with d := hi v, e := lo v }
  | .hl => { k with h := hi v, l := lo v }
  | .af => { k with a := hi v, flags := Flags.decode (lo v) }

/-- `cond(cc)` (R109). -/
def Cpu.holds (k : Cpu) : Cond → Bool
  | .nz => !k.flags.z
  | .z => k.flags.z
  | .nc => !k.flags.c
  | .c => k.flags.c

/-- What a fault records of the CPU (R290). -/
def Cpu.snapshot (k : Cpu) : Snapshot :=
  { a := k.a, flags := k.flags, b := k.b, c := k.c, d := k.d, e := k.e, h := k.h, l := k.l
    sp := k.sp, pc := k.pc, ime := k.ime }

def State.reg (s : State) (r : Reg8) : Byte := s.cpu.get r

def State.setReg (s : State) (r : Reg8) (v : Byte) : State := s.setCpu (s.cpu.set r v)

def State.pair (s : State) (rr : Pair) : Word := s.cpu.getPair rr

def State.setPair (s : State) (rr : Pair) (v : Word) : State := s.setCpu (s.cpu.setPair rr v)

def State.stackPair (s : State) (qq : StackPair) : Word := s.cpu.getStackPair qq

def State.setStackPair (s : State) (qq : StackPair) (v : Word) : State :=
  s.setCpu (s.cpu.setStackPair qq v)

def State.setFlags (s : State) (f : Flags) : State := s.setCpu { s.cpu with flags := f }

def State.setPc (s : State) (v : Word) : State := s.setCpu { s.cpu with pc := v }

def State.setSp (s : State) (v : Word) : State := s.setCpu { s.cpu with sp := v }

def State.setIme (s : State) (v : Bool) : State := s.setCpu { s.cpu with ime := v }

def State.setEiPending (s : State) (v : Bool) : State := s.setCpu { s.cpu with eiPending := v }

def State.setHalted (s : State) (v : Bool) : State := s.setCpu { s.cpu with halted := v }

def State.setStopped (s : State) (v : Bool) : State := s.setCpu { s.cpu with stopped := v }

end Sys2Proof.Machine
end

