-- ==== Sys2Proof/Machine/Timer.lean ====
section
/-! DEFINITION. The timer and divider (R310 to R314). -/

namespace Sys2Proof.Machine

/-- The mask of a clock-select (R311). -/
def timerMask (sel : BitVec 2) : Word :=
  match sel with
  | 0b00#2 => 255
  | 0b01#2 => 3
  | 0b10#2 => 15
  | 0b11#2 => 63

/-- The free-running count, one further (R311). -/
def Timer.count (t : Timer) : Timer := { t with counter := t.counter + 1 }

/-- Whether this tick, whose counter is already incremented, increments `tima` (R311). -/
def Timer.due (t : Timer) : Bool :=
  t.tac.getLsbD 2 && (t.counter &&& timerMask (t.tac.extractLsb' 0 2)) == 0

/-- `TimerTick()` (R311): reload and interrupt in the same tick as the overflow. -/
def timerTick (s : State) : State :=
  let t := s.timer.count
  if t.due then
    if t.tima = 0xFF then raiseInterrupt .timer (s.setTimer { t with tima := t.tma })
    else s.setTimer { t with tima := t.tima + 1 }
  else s.setTimer t

end Sys2Proof.Machine
end

