-- ==== Sys2Proof/Machine/Ops.lean ====
section
/-! DEFINITION. The primitives of R8 over the bus and the stack, and the two exceptions: raising a fault (R290) and interrupt
service (R285) with the return from it (R249). -/

namespace Sys2Proof.Machine

/-- `raise UnsupportedAddress(addr, dir)` and `raise UndefinedOpcode(space, op)`: the record is latched with the registers of this
moment, and the step ends (R290). -/
def raiseFault (kind : Snapshot → Fault) (s : State) : State :=
  s.setFault (some (kind s.cpu.snapshot))

/-! The tick. -/

/-- `DmaTick()` (R318). The source read is a `RawRead` of a machine whose transfer is active; the write into `oam` is direct. If
the read raises, nothing of this tick follows it (log 12). An offset past 160 is no state a run reaches (log 21). -/
def dmaTick (s : State) : Flow Unit :=
  if s.dma.active = false then .done () s
  else if 160 ≤ s.dma.off.toNat then .done () (s.setDma { s.dma with active := false })
  else
    let i := s.dma.off
    let addr := word s.dma.src i
    let s := s.setDma { s.dma with off := i + 1 }
    match rawRead s addr with
    | some v => .done () (s.setMem (s.mem.write (oamBase + zext i) v))
    | none => .raised (raiseFault (.unsupportedAddress addr .read) s)

/-- `AdvancePeripherals()`: DMA, PPU, timer, in that order (R61). -/
def advance (s : State) : Flow Unit :=
  (dmaTick s).bind fun _ s => .done () (timerTick (ppuTick s))

/-- The state after one tick. -/
def State.tick (s : State) : State := (advance s).state

/-- The state after `n` ticks. -/
def State.ticks (s : State) : Nat → State
  | 0 => s
  | n + 1 => (s.tick).ticks n

/-- No transfer is running from a page whose read raises (R318: pages `0xE0..0xFD` under `UNMAPPED_POLICY = fault`). -/
def State.dmaSafe (s : State) : Bool :=
  !s.dma.active || s.params.unmappedPolicy == .openBus ||
    !(decide (0xE0 ≤ s.dma.src.toNat) && decide (s.dma.src.toNat < 0xFE))

/-! Accesses. -/

/-- `MemRead(addr, 1)`: the tick, then the dispatch (R62). -/
def readByte (a : Word) (s : State) : Flow Byte :=
  (advance s).bind fun _ s =>
    match rawRead s a with
    | some v => .done v s
    | none => .raised (raiseFault (.unsupportedAddress a .read) s)

/-- `MemWrite(addr, 1, v)`: the tick, then the dispatch (R63). -/
def writeByte (a : Word) (v : Byte) (s : State) : Flow Unit :=
  (advance s).bind fun _ s =>
    match rawWrite s a v with
    | some s => .done () s
    | none => .raised (raiseFault (.unsupportedAddress a .write) s)

/-- `MemRead(addr, 2)`: low byte at the lower address, accessed first (R64). -/
def readWord (a : Word) (s : State) : Flow Word :=
  (readByte a s).bind fun l s => (readByte (a + 1) s).bind fun h s => .done (word h l) s

/-- `MemWrite(addr, 2, v)` (R65). -/
def writeWord (a : Word) (v : Word) (s : State) : Flow Unit :=
  (writeByte a (lo v) s).bind fun _ s => writeByte (a + 1) (hi v) s

/-- `Imm8()` (R104). A read that raises leaves `pc` (R292). -/
def imm8 (s : State) : Flow Byte :=
  (readByte s.cpu.pc s).bind fun v s => .done v (s.setPc (s.cpu.pc + 1))

/-- `Push16(v)` (R150). -/
def pushWord (v : Word) (s : State) : Flow Unit :=
  let s := s.setSp (s.cpu.sp - 2)
  writeWord s.cpu.sp v s

/-- `Pop16()` (R151). -/
def popWord (s : State) : Flow Word :=
  (readWord s.cpu.sp s).bind fun v s => .done v (s.setSp (s.cpu.sp + 2))

/-! Interrupt service and the return from it. -/

/-- Interrupt service at address `v` (R285): the enable, the queued enable and the halt are cleared, `pc` is pushed and set. -/
def serviceInterrupt (v : Word) (s : State) : Flow Unit :=
  let s := ((s.setIme false).setEiPending false).setHalted false
  (pushWord s.cpu.pc s).bind fun _ s => .done () (s.setPc v)

/-- `pc <- Pop16()` (R247). -/
def returnWord (s : State) : Flow Unit :=
  (popWord s).bind fun v s => .done () (s.setPc v)

/-- The return from a handler: `pc <- Pop16(); ime <- 1` (R249, R287). -/
def returnInterruptWord (s : State) : Flow Unit :=
  (returnWord s).bind fun _ s => .done () (s.setIme true)

end Sys2Proof.Machine
end

