-- ==== Sys2Proof/Machine/Operands.lean ====
section
/-! DEFINITION. The operand locations, each read and written in one place (R102, R130): the `r` table with its memory entry, and
the memory operands of the loads of `A`. -/

namespace Sys2Proof.Machine

/-- The value of an 8-bit operand: a register (no access) or the byte at `HL` (one access). -/
def readR8 (o : R8) (s : State) : Flow Byte :=
  match o with
  | .reg r => .done (s.reg r) s
  | .atHL => readByte (s.pair .hl) s

/-- An 8-bit operand written. -/
def writeR8 (o : R8) (v : Byte) (s : State) : Flow Unit :=
  match o with
  | .reg r => .done () (s.setReg r v)
  | .atHL => writeByte (s.pair .hl) v s

/-- Effective addresses (R130). -/
def accAddress (m : AccMem) (s : State) : Word :=
  match m with
  | .bc => s.pair .bc
  | .de => s.pair .de
  | .hlInc => s.pair .hl
  | .hlDec => s.pair .hl
  | .abs nn => nn
  | .ioC => 0xFF00 + zext (s.reg .c)
  | .io n => 0xFF00 + zext n

/-- What an operand does to `HL` after its access (R130). -/
def accUpdate (m : AccMem) (s : State) : State :=
  match m with
  | .hlInc => s.setPair .hl (s.pair .hl + 1)
  | .hlDec => s.setPair .hl (s.pair .hl - 1)
  | .bc => s
  | .de => s
  | .abs _ => s
  | .ioC => s
  | .io _ => s

end Sys2Proof.Machine
end

