-- ==== Sys2Proof/Machine/Alu16.lean ====
section
/-! DEFINITION. 16-bit arithmetic (43_alu16.md). -/

namespace Sys2Proof.Machine

/-- `ADD HL,rr` (R201). -/
def addHL (rr : Pair) (s : State) : Result :=
  let (v, f) := add16 (s.pair .hl) (s.pair rr) s.cpu.flags
  .next ((s.setPair .hl v).setFlags f)

/-- `INC rr` (R202). -/
def incPair (rr : Pair) (s : State) : Result := .next (s.setPair rr (s.pair rr + 1))

/-- `DEC rr` (R203). -/
def decPair (rr : Pair) (s : State) : Result := .next (s.setPair rr (s.pair rr - 1))

/-- `ADD SP,e` (R204). -/
def addSP (e : Byte) (s : State) : Result :=
  let (v, f) := spPlusE s.cpu.sp e
  .next ((s.setSp v).setFlags f)

/-- R202 `INC BC` (0x03). -/
def execInc_BC (s : State) : Result := incPair .bc s
/-- R201 `ADD HL,BC` (0x09). -/
def execAdd_HL_BC (s : State) : Result := addHL .bc s
/-- R203 `DEC BC` (0x0B). -/
def execDec_BC (s : State) : Result := decPair .bc s
/-- R202 `INC DE` (0x13). -/
def execInc_DE (s : State) : Result := incPair .de s
/-- R201 `ADD HL,DE` (0x19). -/
def execAdd_HL_DE (s : State) : Result := addHL .de s
/-- R203 `DEC DE` (0x1B). -/
def execDec_DE (s : State) : Result := decPair .de s
/-- R202 `INC HL` (0x23). -/
def execInc_HL (s : State) : Result := incPair .hl s
/-- R201 `ADD HL,HL` (0x29). -/
def execAdd_HL_HL (s : State) : Result := addHL .hl s
/-- R203 `DEC HL` (0x2B). -/
def execDec_HL (s : State) : Result := decPair .hl s
/-- R202 `INC SP` (0x33). -/
def execInc_SP (s : State) : Result := incPair .sp s
/-- R201 `ADD HL,SP` (0x39). -/
def execAdd_HL_SP (s : State) : Result := addHL .sp s
/-- R203 `DEC SP` (0x3B). -/
def execDec_SP (s : State) : Result := decPair .sp s
/-- R204 `ADD SP,e` (0xE8). -/
def execAdd_SP_e (e : Byte) (s : State) : Result := addSP e s

end Sys2Proof.Machine
end

