-- ==== Sys2Proof/Machine/Alu8.lean ====
section
/-! DEFINITION. 8-bit arithmetic and logic (42_alu8.md). -/

namespace Sys2Proof.Machine

/-- `(A, Z, N, H, C) <- f(A, v)` with the old `C` as carry-in where the function takes one (R161 to R184). -/
def applyAlu (op : AluOp) (v : Byte) (s : State) : State :=
  let (r, f) := aluOp op (s.reg .a) v s.cpu.flags.c
  (s.setReg .a r).setFlags f

/-- A two-operand operation with a register or the byte at `HL`; the operand is read first. -/
def alu8 (op : AluOp) (o : R8) (s : State) : Result :=
  ((readR8 o s).bind fun v s => .done () (applyAlu op v s)).outcome

/-- A two-operand operation with an immediate. -/
def aluImm8 (op : AluOp) (n : Byte) (s : State) : Result := .next (applyAlu op n s)

/-- A read, a function of the byte and the flags, a write, then the flags (R185 to R188, R215 to R230). -/
def modify8 (o : R8) (f : Byte → Flags → Byte × Flags) (s : State) : Result :=
  ((readR8 o s).bind fun v s =>
    let (r, g) := f v s.cpu.flags
    (writeR8 o r s).bind fun _ s => .done () (s.setFlags g)).outcome

/-- `INC` (R185, R186). -/
def inc8 (o : R8) (s : State) : Result := modify8 o increment8 s

/-- `DEC` (R187, R188). -/
def dec8 (o : R8) (s : State) : Result := modify8 o decrement8 s

/-- `DAA` (R189). -/
def decimalAdjust (s : State) : Result :=
  let (r, f) := daa8 (s.reg .a) s.cpu.flags
  .next ((s.setReg .a r).setFlags f)

/-- `CPL` (R190). -/
def complementA (s : State) : Result :=
  .next ((s.setReg .a (~~~ s.reg .a)).setFlags { s.cpu.flags with n := true, h := true })

/-- `SCF` (R191). -/
def setCarry (s : State) : Result :=
  .next (s.setFlags { s.cpu.flags with n := false, h := false, c := true })

/-- `CCF` (R192). -/
def complementCarry (s : State) : Result :=
  .next (s.setFlags { s.cpu.flags with n := false, h := false, c := !s.cpu.flags.c })

/-- R185 `INC B` (0x04). -/
def execInc_B (s : State) : Result := inc8 (.reg .b) s
/-- R187 `DEC B` (0x05). -/
def execDec_B (s : State) : Result := dec8 (.reg .b) s
/-- R185 `INC C` (0x0C). -/
def execInc_C (s : State) : Result := inc8 (.reg .c) s
/-- R187 `DEC C` (0x0D). -/
def execDec_C (s : State) : Result := dec8 (.reg .c) s
/-- R185 `INC D` (0x14). -/
def execInc_D (s : State) : Result := inc8 (.reg .d) s
/-- R187 `DEC D` (0x15). -/
def execDec_D (s : State) : Result := dec8 (.reg .d) s
/-- R185 `INC E` (0x1C). -/
def execInc_E (s : State) : Result := inc8 (.reg .e) s
/-- R187 `DEC E` (0x1D). -/
def execDec_E (s : State) : Result := dec8 (.reg .e) s
/-- R185 `INC H` (0x24). -/
def execInc_H (s : State) : Result := inc8 (.reg .h) s
/-- R187 `DEC H` (0x25). -/
def execDec_H (s : State) : Result := dec8 (.reg .h) s
/-- R189 `DAA` (0x27). -/
def execDaa (s : State) : Result := decimalAdjust s
/-- R185 `INC L` (0x2C). -/
def execInc_L (s : State) : Result := inc8 (.reg .l) s
/-- R187 `DEC L` (0x2D). -/
def execDec_L (s : State) : Result := dec8 (.reg .l) s
/-- R190 `CPL` (0x2F). -/
def execCpl (s : State) : Result := complementA s
/-- R186 `INC (HL)` (0x34). -/
def execInc_atHL (s : State) : Result := inc8 (.atHL) s
/-- R188 `DEC (HL)` (0x35). -/
def execDec_atHL (s : State) : Result := dec8 (.atHL) s
/-- R191 `SCF` (0x37). -/
def execScf (s : State) : Result := setCarry s
/-- R185 `INC A` (0x3C). -/
def execInc_A (s : State) : Result := inc8 (.reg .a) s
/-- R187 `DEC A` (0x3D). -/
def execDec_A (s : State) : Result := dec8 (.reg .a) s
/-- R192 `CCF` (0x3F). -/
def execCcf (s : State) : Result := complementCarry s
/-- R161 `ADD A,B` (0x80). -/
def execAdd_A_B (s : State) : Result := alu8 .add (.reg .b) s
/-- R161 `ADD A,C` (0x81). -/
def execAdd_A_C (s : State) : Result := alu8 .add (.reg .c) s
/-- R161 `ADD A,D` (0x82). -/
def execAdd_A_D (s : State) : Result := alu8 .add (.reg .d) s
/-- R161 `ADD A,E` (0x83). -/
def execAdd_A_E (s : State) : Result := alu8 .add (.reg .e) s
/-- R161 `ADD A,H` (0x84). -/
def execAdd_A_H (s : State) : Result := alu8 .add (.reg .h) s
/-- R161 `ADD A,L` (0x85). -/
def execAdd_A_L (s : State) : Result := alu8 .add (.reg .l) s
/-- R162 `ADD A,(HL)` (0x86). -/
def execAdd_A_atHL (s : State) : Result := alu8 .add (.atHL) s
/-- R161 `ADD A,A` (0x87). -/
def execAdd_A_A (s : State) : Result := alu8 .add (.reg .a) s
/-- R164 `ADC A,B` (0x88). -/
def execAdc_A_B (s : State) : Result := alu8 .adc (.reg .b) s
/-- R164 `ADC A,C` (0x89). -/
def execAdc_A_C (s : State) : Result := alu8 .adc (.reg .c) s
/-- R164 `ADC A,D` (0x8A). -/
def execAdc_A_D (s : State) : Result := alu8 .adc (.reg .d) s
/-- R164 `ADC A,E` (0x8B). -/
def execAdc_A_E (s : State) : Result := alu8 .adc (.reg .e) s
/-- R164 `ADC A,H` (0x8C). -/
def execAdc_A_H (s : State) : Result := alu8 .adc (.reg .h) s
/-- R164 `ADC A,L` (0x8D). -/
def execAdc_A_L (s : State) : Result := alu8 .adc (.reg .l) s
/-- R165 `ADC A,(HL)` (0x8E). -/
def execAdc_A_atHL (s : State) : Result := alu8 .adc (.atHL) s
/-- R164 `ADC A,A` (0x8F). -/
def execAdc_A_A (s : State) : Result := alu8 .adc (.reg .a) s
/-- R167 `SUB B` (0x90). -/
def execSub_B (s : State) : Result := alu8 .sub (.reg .b) s
/-- R167 `SUB C` (0x91). -/
def execSub_C (s : State) : Result := alu8 .sub (.reg .c) s
/-- R167 `SUB D` (0x92). -/
def execSub_D (s : State) : Result := alu8 .sub (.reg .d) s
/-- R167 `SUB E` (0x93). -/
def execSub_E (s : State) : Result := alu8 .sub (.reg .e) s
/-- R167 `SUB H` (0x94). -/
def execSub_H (s : State) : Result := alu8 .sub (.reg .h) s
/-- R167 `SUB L` (0x95). -/
def execSub_L (s : State) : Result := alu8 .sub (.reg .l) s
/-- R168 `SUB (HL)` (0x96). -/
def execSub_atHL (s : State) : Result := alu8 .sub (.atHL) s
/-- R167 `SUB A` (0x97). -/
def execSub_A (s : State) : Result := alu8 .sub (.reg .a) s
/-- R170 `SBC A,B` (0x98). -/
def execSbc_A_B (s : State) : Result := alu8 .sbc (.reg .b) s
/-- R170 `SBC A,C` (0x99). -/
def execSbc_A_C (s : State) : Result := alu8 .sbc (.reg .c) s
/-- R170 `SBC A,D` (0x9A). -/
def execSbc_A_D (s : State) : Result := alu8 .sbc (.reg .d) s
/-- R170 `SBC A,E` (0x9B). -/
def execSbc_A_E (s : State) : Result := alu8 .sbc (.reg .e) s
/-- R170 `SBC A,H` (0x9C). -/
def execSbc_A_H (s : State) : Result := alu8 .sbc (.reg .h) s
/-- R170 `SBC A,L` (0x9D). -/
def execSbc_A_L (s : State) : Result := alu8 .sbc (.reg .l) s
/-- R171 `SBC A,(HL)` (0x9E). -/
def execSbc_A_atHL (s : State) : Result := alu8 .sbc (.atHL) s
/-- R170 `SBC A,A` (0x9F). -/
def execSbc_A_A (s : State) : Result := alu8 .sbc (.reg .a) s
/-- R173 `AND B` (0xA0). -/
def execAnd_B (s : State) : Result := alu8 .and (.reg .b) s
/-- R173 `AND C` (0xA1). -/
def execAnd_C (s : State) : Result := alu8 .and (.reg .c) s
/-- R173 `AND D` (0xA2). -/
def execAnd_D (s : State) : Result := alu8 .and (.reg .d) s
/-- R173 `AND E` (0xA3). -/
def execAnd_E (s : State) : Result := alu8 .and (.reg .e) s
/-- R173 `AND H` (0xA4). -/
def execAnd_H (s : State) : Result := alu8 .and (.reg .h) s
/-- R173 `AND L` (0xA5). -/
def execAnd_L (s : State) : Result := alu8 .and (.reg .l) s
/-- R174 `AND (HL)` (0xA6). -/
def execAnd_atHL (s : State) : Result := alu8 .and (.atHL) s
/-- R173 `AND A` (0xA7). -/
def execAnd_A (s : State) : Result := alu8 .and (.reg .a) s
/-- R176 `XOR B` (0xA8). -/
def execXor_B (s : State) : Result := alu8 .xor (.reg .b) s
/-- R176 `XOR C` (0xA9). -/
def execXor_C (s : State) : Result := alu8 .xor (.reg .c) s
/-- R176 `XOR D` (0xAA). -/
def execXor_D (s : State) : Result := alu8 .xor (.reg .d) s
/-- R176 `XOR E` (0xAB). -/
def execXor_E (s : State) : Result := alu8 .xor (.reg .e) s
/-- R176 `XOR H` (0xAC). -/
def execXor_H (s : State) : Result := alu8 .xor (.reg .h) s
/-- R176 `XOR L` (0xAD). -/
def execXor_L (s : State) : Result := alu8 .xor (.reg .l) s
/-- R177 `XOR (HL)` (0xAE). -/
def execXor_atHL (s : State) : Result := alu8 .xor (.atHL) s
/-- R176 `XOR A` (0xAF). -/
def execXor_A (s : State) : Result := alu8 .xor (.reg .a) s
/-- R179 `OR B` (0xB0). -/
def execOr_B (s : State) : Result := alu8 .or (.reg .b) s
/-- R179 `OR C` (0xB1). -/
def execOr_C (s : State) : Result := alu8 .or (.reg .c) s
/-- R179 `OR D` (0xB2). -/
def execOr_D (s : State) : Result := alu8 .or (.reg .d) s
/-- R179 `OR E` (0xB3). -/
def execOr_E (s : State) : Result := alu8 .or (.reg .e) s
/-- R179 `OR H` (0xB4). -/
def execOr_H (s : State) : Result := alu8 .or (.reg .h) s
/-- R179 `OR L` (0xB5). -/
def execOr_L (s : State) : Result := alu8 .or (.reg .l) s
/-- R180 `OR (HL)` (0xB6). -/
def execOr_atHL (s : State) : Result := alu8 .or (.atHL) s
/-- R179 `OR A` (0xB7). -/
def execOr_A (s : State) : Result := alu8 .or (.reg .a) s
/-- R182 `CP B` (0xB8). -/
def execCp_B (s : State) : Result := alu8 .cp (.reg .b) s
/-- R182 `CP C` (0xB9). -/
def execCp_C (s : State) : Result := alu8 .cp (.reg .c) s
/-- R182 `CP D` (0xBA). -/
def execCp_D (s : State) : Result := alu8 .cp (.reg .d) s
/-- R182 `CP E` (0xBB). -/
def execCp_E (s : State) : Result := alu8 .cp (.reg .e) s
/-- R182 `CP H` (0xBC). -/
def execCp_H (s : State) : Result := alu8 .cp (.reg .h) s
/-- R182 `CP L` (0xBD). -/
def execCp_L (s : State) : Result := alu8 .cp (.reg .l) s
/-- R183 `CP (HL)` (0xBE). -/
def execCp_atHL (s : State) : Result := alu8 .cp (.atHL) s
/-- R182 `CP A` (0xBF). -/
def execCp_A (s : State) : Result := alu8 .cp (.reg .a) s
/-- R163 `ADD A,n` (0xC6). -/
def execAdd_A_n (n : Byte) (s : State) : Result := aluImm8 .add n s
/-- R166 `ADC A,n` (0xCE). -/
def execAdc_A_n (n : Byte) (s : State) : Result := aluImm8 .adc n s
/-- R169 `SUB n` (0xD6). -/
def execSub_n (n : Byte) (s : State) : Result := aluImm8 .sub n s
/-- R172 `SBC A,n` (0xDE). -/
def execSbc_A_n (n : Byte) (s : State) : Result := aluImm8 .sbc n s
/-- R175 `AND n` (0xE6). -/
def execAnd_n (n : Byte) (s : State) : Result := aluImm8 .and n s
/-- R178 `XOR n` (0xEE). -/
def execXor_n (n : Byte) (s : State) : Result := aluImm8 .xor n s
/-- R181 `OR n` (0xF6). -/
def execOr_n (n : Byte) (s : State) : Result := aluImm8 .or n s
/-- R184 `CP n` (0xFE). -/
def execCp_n (n : Byte) (s : State) : Result := aluImm8 .cp n s

end Sys2Proof.Machine
end

