-- ==== Sys2Proof/Machine/Bit.lean ====
section
/-! DEFINITION. `BIT`, `RES`, `SET` (44_rotate_shift_bit.md, section 4). -/

namespace Sys2Proof.Machine

/-- `BIT b` (R231, R232). -/
def testBit (b : BitVec 3) (o : R8) (s : State) : Result :=
  ((readR8 o s).bind fun v s => .done () (s.setFlags (bitFlags v b s.cpu.flags))).outcome

/-- `RES b` (R233, R234); the write happens whatever the bit was. -/
def resetBit (b : BitVec 3) (o : R8) (s : State) : Result :=
  ((readR8 o s).bind fun v s => writeR8 o (v &&& ~~~ bitMask b) s).outcome

/-- `SET b` (R235, R236); the write happens whatever the bit was. -/
def setBit (b : BitVec 3) (o : R8) (s : State) : Result :=
  ((readR8 o s).bind fun v s => writeR8 o (v ||| bitMask b) s).outcome

/-- R231 `BIT 0,B` (0xCB 0x40). -/
def execBit_0_B (s : State) : Result := testBit 0 (.reg .b) s
/-- R231 `BIT 0,C` (0xCB 0x41). -/
def execBit_0_C (s : State) : Result := testBit 0 (.reg .c) s
/-- R231 `BIT 0,D` (0xCB 0x42). -/
def execBit_0_D (s : State) : Result := testBit 0 (.reg .d) s
/-- R231 `BIT 0,E` (0xCB 0x43). -/
def execBit_0_E (s : State) : Result := testBit 0 (.reg .e) s
/-- R231 `BIT 0,H` (0xCB 0x44). -/
def execBit_0_H (s : State) : Result := testBit 0 (.reg .h) s
/-- R231 `BIT 0,L` (0xCB 0x45). -/
def execBit_0_L (s : State) : Result := testBit 0 (.reg .l) s
/-- R232 `BIT 0,(HL)` (0xCB 0x46). -/
def execBit_0_atHL (s : State) : Result := testBit 0 (.atHL) s
/-- R231 `BIT 0,A` (0xCB 0x47). -/
def execBit_0_A (s : State) : Result := testBit 0 (.reg .a) s
/-- R231 `BIT 1,B` (0xCB 0x48). -/
def execBit_1_B (s : State) : Result := testBit 1 (.reg .b) s
/-- R231 `BIT 1,C` (0xCB 0x49). -/
def execBit_1_C (s : State) : Result := testBit 1 (.reg .c) s
/-- R231 `BIT 1,D` (0xCB 0x4A). -/
def execBit_1_D (s : State) : Result := testBit 1 (.reg .d) s
/-- R231 `BIT 1,E` (0xCB 0x4B). -/
def execBit_1_E (s : State) : Result := testBit 1 (.reg .e) s
/-- R231 `BIT 1,H` (0xCB 0x4C). -/
def execBit_1_H (s : State) : Result := testBit 1 (.reg .h) s
/-- R231 `BIT 1,L` (0xCB 0x4D). -/
def execBit_1_L (s : State) : Result := testBit 1 (.reg .l) s
/-- R232 `BIT 1,(HL)` (0xCB 0x4E). -/
def execBit_1_atHL (s : State) : Result := testBit 1 (.atHL) s
/-- R231 `BIT 1,A` (0xCB 0x4F). -/
def execBit_1_A (s : State) : Result := testBit 1 (.reg .a) s
/-- R231 `BIT 2,B` (0xCB 0x50). -/
def execBit_2_B (s : State) : Result := testBit 2 (.reg .b) s
/-- R231 `BIT 2,C` (0xCB 0x51). -/
def execBit_2_C (s : State) : Result := testBit 2 (.reg .c) s
/-- R231 `BIT 2,D` (0xCB 0x52). -/
def execBit_2_D (s : State) : Result := testBit 2 (.reg .d) s
/-- R231 `BIT 2,E` (0xCB 0x53). -/
def execBit_2_E (s : State) : Result := testBit 2 (.reg .e) s
/-- R231 `BIT 2,H` (0xCB 0x54). -/
def execBit_2_H (s : State) : Result := testBit 2 (.reg .h) s
/-- R231 `BIT 2,L` (0xCB 0x55). -/
def execBit_2_L (s : State) : Result := testBit 2 (.reg .l) s
/-- R232 `BIT 2,(HL)` (0xCB 0x56). -/
def execBit_2_atHL (s : State) : Result := testBit 2 (.atHL) s
/-- R231 `BIT 2,A` (0xCB 0x57). -/
def execBit_2_A (s : State) : Result := testBit 2 (.reg .a) s
/-- R231 `BIT 3,B` (0xCB 0x58). -/
def execBit_3_B (s : State) : Result := testBit 3 (.reg .b) s
/-- R231 `BIT 3,C` (0xCB 0x59). -/
def execBit_3_C (s : State) : Result := testBit 3 (.reg .c) s
/-- R231 `BIT 3,D` (0xCB 0x5A). -/
def execBit_3_D (s : State) : Result := testBit 3 (.reg .d) s
/-- R231 `BIT 3,E` (0xCB 0x5B). -/
def execBit_3_E (s : State) : Result := testBit 3 (.reg .e) s
/-- R231 `BIT 3,H` (0xCB 0x5C). -/
def execBit_3_H (s : State) : Result := testBit 3 (.reg .h) s
/-- R231 `BIT 3,L` (0xCB 0x5D). -/
def execBit_3_L (s : State) : Result := testBit 3 (.reg .l) s
/-- R232 `BIT 3,(HL)` (0xCB 0x5E). -/
def execBit_3_atHL (s : State) : Result := testBit 3 (.atHL) s
/-- R231 `BIT 3,A` (0xCB 0x5F). -/
def execBit_3_A (s : State) : Result := testBit 3 (.reg .a) s
/-- R231 `BIT 4,B` (0xCB 0x60). -/
def execBit_4_B (s : State) : Result := testBit 4 (.reg .b) s
/-- R231 `BIT 4,C` (0xCB 0x61). -/
def execBit_4_C (s : State) : Result := testBit 4 (.reg .c) s
/-- R231 `BIT 4,D` (0xCB 0x62). -/
def execBit_4_D (s : State) : Result := testBit 4 (.reg .d) s
/-- R231 `BIT 4,E` (0xCB 0x63). -/
def execBit_4_E (s : State) : Result := testBit 4 (.reg .e) s
/-- R231 `BIT 4,H` (0xCB 0x64). -/
def execBit_4_H (s : State) : Result := testBit 4 (.reg .h) s
/-- R231 `BIT 4,L` (0xCB 0x65). -/
def execBit_4_L (s : State) : Result := testBit 4 (.reg .l) s
/-- R232 `BIT 4,(HL)` (0xCB 0x66). -/
def execBit_4_atHL (s : State) : Result := testBit 4 (.atHL) s
/-- R231 `BIT 4,A` (0xCB 0x67). -/
def execBit_4_A (s : State) : Result := testBit 4 (.reg .a) s
/-- R231 `BIT 5,B` (0xCB 0x68). -/
def execBit_5_B (s : State) : Result := testBit 5 (.reg .b) s
/-- R231 `BIT 5,C` (0xCB 0x69). -/
def execBit_5_C (s : State) : Result := testBit 5 (.reg .c) s
/-- R231 `BIT 5,D` (0xCB 0x6A). -/
def execBit_5_D (s : State) : Result := testBit 5 (.reg .d) s
/-- R231 `BIT 5,E` (0xCB 0x6B). -/
def execBit_5_E (s : State) : Result := testBit 5 (.reg .e) s
/-- R231 `BIT 5,H` (0xCB 0x6C). -/
def execBit_5_H (s : State) : Result := testBit 5 (.reg .h) s
/-- R231 `BIT 5,L` (0xCB 0x6D). -/
def execBit_5_L (s : State) : Result := testBit 5 (.reg .l) s
/-- R232 `BIT 5,(HL)` (0xCB 0x6E). -/
def execBit_5_atHL (s : State) : Result := testBit 5 (.atHL) s
/-- R231 `BIT 5,A` (0xCB 0x6F). -/
def execBit_5_A (s : State) : Result := testBit 5 (.reg .a) s
/-- R231 `BIT 6,B` (0xCB 0x70). -/
def execBit_6_B (s : State) : Result := testBit 6 (.reg .b) s
/-- R231 `BIT 6,C` (0xCB 0x71). -/
def execBit_6_C (s : State) : Result := testBit 6 (.reg .c) s
/-- R231 `BIT 6,D` (0xCB 0x72). -/
def execBit_6_D (s : State) : Result := testBit 6 (.reg .d) s
/-- R231 `BIT 6,E` (0xCB 0x73). -/
def execBit_6_E (s : State) : Result := testBit 6 (.reg .e) s
/-- R231 `BIT 6,H` (0xCB 0x74). -/
def execBit_6_H (s : State) : Result := testBit 6 (.reg .h) s
/-- R231 `BIT 6,L` (0xCB 0x75). -/
def execBit_6_L (s : State) : Result := testBit 6 (.reg .l) s
/-- R232 `BIT 6,(HL)` (0xCB 0x76). -/
def execBit_6_atHL (s : State) : Result := testBit 6 (.atHL) s
/-- R231 `BIT 6,A` (0xCB 0x77). -/
def execBit_6_A (s : State) : Result := testBit 6 (.reg .a) s
/-- R231 `BIT 7,B` (0xCB 0x78). -/
def execBit_7_B (s : State) : Result := testBit 7 (.reg .b) s
/-- R231 `BIT 7,C` (0xCB 0x79). -/
def execBit_7_C (s : State) : Result := testBit 7 (.reg .c) s
/-- R231 `BIT 7,D` (0xCB 0x7A). -/
def execBit_7_D (s : State) : Result := testBit 7 (.reg .d) s
/-- R231 `BIT 7,E` (0xCB 0x7B). -/
def execBit_7_E (s : State) : Result := testBit 7 (.reg .e) s
/-- R231 `BIT 7,H` (0xCB 0x7C). -/
def execBit_7_H (s : State) : Result := testBit 7 (.reg .h) s
/-- R231 `BIT 7,L` (0xCB 0x7D). -/
def execBit_7_L (s : State) : Result := testBit 7 (.reg .l) s
/-- R232 `BIT 7,(HL)` (0xCB 0x7E). -/
def execBit_7_atHL (s : State) : Result := testBit 7 (.atHL) s
/-- R231 `BIT 7,A` (0xCB 0x7F). -/
def execBit_7_A (s : State) : Result := testBit 7 (.reg .a) s
/-- R233 `RES 0,B` (0xCB 0x80). -/
def execRes_0_B (s : State) : Result := resetBit 0 (.reg .b) s
/-- R233 `RES 0,C` (0xCB 0x81). -/
def execRes_0_C (s : State) : Result := resetBit 0 (.reg .c) s
/-- R233 `RES 0,D` (0xCB 0x82). -/
def execRes_0_D (s : State) : Result := resetBit 0 (.reg .d) s
/-- R233 `RES 0,E` (0xCB 0x83). -/
def execRes_0_E (s : State) : Result := resetBit 0 (.reg .e) s
/-- R233 `RES 0,H` (0xCB 0x84). -/
def execRes_0_H (s : State) : Result := resetBit 0 (.reg .h) s
/-- R233 `RES 0,L` (0xCB 0x85). -/
def execRes_0_L (s : State) : Result := resetBit 0 (.reg .l) s
/-- R234 `RES 0,(HL)` (0xCB 0x86). -/
def execRes_0_atHL (s : State) : Result := resetBit 0 (.atHL) s
/-- R233 `RES 0,A` (0xCB 0x87). -/
def execRes_0_A (s : State) : Result := resetBit 0 (.reg .a) s
/-- R233 `RES 1,B` (0xCB 0x88). -/
def execRes_1_B (s : State) : Result := resetBit 1 (.reg .b) s
/-- R233 `RES 1,C` (0xCB 0x89). -/
def execRes_1_C (s : State) : Result := resetBit 1 (.reg .c) s
/-- R233 `RES 1,D` (0xCB 0x8A). -/
def execRes_1_D (s : State) : Result := resetBit 1 (.reg .d) s
/-- R233 `RES 1,E` (0xCB 0x8B). -/
def execRes_1_E (s : State) : Result := resetBit 1 (.reg .e) s
/-- R233 `RES 1,H` (0xCB 0x8C). -/
def execRes_1_H (s : State) : Result := resetBit 1 (.reg .h) s
/-- R233 `RES 1,L` (0xCB 0x8D). -/
def execRes_1_L (s : State) : Result := resetBit 1 (.reg .l) s
/-- R234 `RES 1,(HL)` (0xCB 0x8E). -/
def execRes_1_atHL (s : State) : Result := resetBit 1 (.atHL) s
/-- R233 `RES 1,A` (0xCB 0x8F). -/
def execRes_1_A (s : State) : Result := resetBit 1 (.reg .a) s
/-- R233 `RES 2,B` (0xCB 0x90). -/
def execRes_2_B (s : State) : Result := resetBit 2 (.reg .b) s
/-- R233 `RES 2,C` (0xCB 0x91). -/
def execRes_2_C (s : State) : Result := resetBit 2 (.reg .c) s
/-- R233 `RES 2,D` (0xCB 0x92). -/
def execRes_2_D (s : State) : Result := resetBit 2 (.reg .d) s
/-- R233 `RES 2,E` (0xCB 0x93). -/
def execRes_2_E (s : State) : Result := resetBit 2 (.reg .e) s
/-- R233 `RES 2,H` (0xCB 0x94). -/
def execRes_2_H (s : State) : Result := resetBit 2 (.reg .h) s
/-- R233 `RES 2,L` (0xCB 0x95). -/
def execRes_2_L (s : State) : Result := resetBit 2 (.reg .l) s
/-- R234 `RES 2,(HL)` (0xCB 0x96). -/
def execRes_2_atHL (s : State) : Result := resetBit 2 (.atHL) s
/-- R233 `RES 2,A` (0xCB 0x97). -/
def execRes_2_A (s : State) : Result := resetBit 2 (.reg .a) s
/-- R233 `RES 3,B` (0xCB 0x98). -/
def execRes_3_B (s : State) : Result := resetBit 3 (.reg .b) s
/-- R233 `RES 3,C` (0xCB 0x99). -/
def execRes_3_C (s : State) : Result := resetBit 3 (.reg .c) s
/-- R233 `RES 3,D` (0xCB 0x9A). -/
def execRes_3_D (s : State) : Result := resetBit 3 (.reg .d) s
/-- R233 `RES 3,E` (0xCB 0x9B). -/
def execRes_3_E (s : State) : Result := resetBit 3 (.reg .e) s
/-- R233 `RES 3,H` (0xCB 0x9C). -/
def execRes_3_H (s : State) : Result := resetBit 3 (.reg .h) s
/-- R233 `RES 3,L` (0xCB 0x9D). -/
def execRes_3_L (s : State) : Result := resetBit 3 (.reg .l) s
/-- R234 `RES 3,(HL)` (0xCB 0x9E). -/
def execRes_3_atHL (s : State) : Result := resetBit 3 (.atHL) s
/-- R233 `RES 3,A` (0xCB 0x9F). -/
def execRes_3_A (s : State) : Result := resetBit 3 (.reg .a) s
/-- R233 `RES 4,B` (0xCB 0xA0). -/
def execRes_4_B (s : State) : Result := resetBit 4 (.reg .b) s
/-- R233 `RES 4,C` (0xCB 0xA1). -/
def execRes_4_C (s : State) : Result := resetBit 4 (.reg .c) s
/-- R233 `RES 4,D` (0xCB 0xA2). -/
def execRes_4_D (s : State) : Result := resetBit 4 (.reg .d) s
/-- R233 `RES 4,E` (0xCB 0xA3). -/
def execRes_4_E (s : State) : Result := resetBit 4 (.reg .e) s
/-- R233 `RES 4,H` (0xCB 0xA4). -/
def execRes_4_H (s : State) : Result := resetBit 4 (.reg .h) s
/-- R233 `RES 4,L` (0xCB 0xA5). -/
def execRes_4_L (s : State) : Result := resetBit 4 (.reg .l) s
/-- R234 `RES 4,(HL)` (0xCB 0xA6). -/
def execRes_4_atHL (s : State) : Result := resetBit 4 (.atHL) s
/-- R233 `RES 4,A` (0xCB 0xA7). -/
def execRes_4_A (s : State) : Result := resetBit 4 (.reg .a) s
/-- R233 `RES 5,B` (0xCB 0xA8). -/
def execRes_5_B (s : State) : Result := resetBit 5 (.reg .b) s
/-- R233 `RES 5,C` (0xCB 0xA9). -/
def execRes_5_C (s : State) : Result := resetBit 5 (.reg .c) s
/-- R233 `RES 5,D` (0xCB 0xAA). -/
def execRes_5_D (s : State) : Result := resetBit 5 (.reg .d) s
/-- R233 `RES 5,E` (0xCB 0xAB). -/
def execRes_5_E (s : State) : Result := resetBit 5 (.reg .e) s
/-- R233 `RES 5,H` (0xCB 0xAC). -/
def execRes_5_H (s : State) : Result := resetBit 5 (.reg .h) s
/-- R233 `RES 5,L` (0xCB 0xAD). -/
def execRes_5_L (s : State) : Result := resetBit 5 (.reg .l) s
/-- R234 `RES 5,(HL)` (0xCB 0xAE). -/
def execRes_5_atHL (s : State) : Result := resetBit 5 (.atHL) s
/-- R233 `RES 5,A` (0xCB 0xAF). -/
def execRes_5_A (s : State) : Result := resetBit 5 (.reg .a) s
/-- R233 `RES 6,B` (0xCB 0xB0). -/
def execRes_6_B (s : State) : Result := resetBit 6 (.reg .b) s
/-- R233 `RES 6,C` (0xCB 0xB1). -/
def execRes_6_C (s : State) : Result := resetBit 6 (.reg .c) s
/-- R233 `RES 6,D` (0xCB 0xB2). -/
def execRes_6_D (s : State) : Result := resetBit 6 (.reg .d) s
/-- R233 `RES 6,E` (0xCB 0xB3). -/
def execRes_6_E (s : State) : Result := resetBit 6 (.reg .e) s
/-- R233 `RES 6,H` (0xCB 0xB4). -/
def execRes_6_H (s : State) : Result := resetBit 6 (.reg .h) s
/-- R233 `RES 6,L` (0xCB 0xB5). -/
def execRes_6_L (s : State) : Result := resetBit 6 (.reg .l) s
/-- R234 `RES 6,(HL)` (0xCB 0xB6). -/
def execRes_6_atHL (s : State) : Result := resetBit 6 (.atHL) s
/-- R233 `RES 6,A` (0xCB 0xB7). -/
def execRes_6_A (s : State) : Result := resetBit 6 (.reg .a) s
/-- R233 `RES 7,B` (0xCB 0xB8). -/
def execRes_7_B (s : State) : Result := resetBit 7 (.reg .b) s
/-- R233 `RES 7,C` (0xCB 0xB9). -/
def execRes_7_C (s : State) : Result := resetBit 7 (.reg .c) s
/-- R233 `RES 7,D` (0xCB 0xBA). -/
def execRes_7_D (s : State) : Result := resetBit 7 (.reg .d) s
/-- R233 `RES 7,E` (0xCB 0xBB). -/
def execRes_7_E (s : State) : Result := resetBit 7 (.reg .e) s
/-- R233 `RES 7,H` (0xCB 0xBC). -/
def execRes_7_H (s : State) : Result := resetBit 7 (.reg .h) s
/-- R233 `RES 7,L` (0xCB 0xBD). -/
def execRes_7_L (s : State) : Result := resetBit 7 (.reg .l) s
/-- R234 `RES 7,(HL)` (0xCB 0xBE). -/
def execRes_7_atHL (s : State) : Result := resetBit 7 (.atHL) s
/-- R233 `RES 7,A` (0xCB 0xBF). -/
def execRes_7_A (s : State) : Result := resetBit 7 (.reg .a) s
/-- R235 `SET 0,B` (0xCB 0xC0). -/
def execSet_0_B (s : State) : Result := setBit 0 (.reg .b) s
/-- R235 `SET 0,C` (0xCB 0xC1). -/
def execSet_0_C (s : State) : Result := setBit 0 (.reg .c) s
/-- R235 `SET 0,D` (0xCB 0xC2). -/
def execSet_0_D (s : State) : Result := setBit 0 (.reg .d) s
/-- R235 `SET 0,E` (0xCB 0xC3). -/
def execSet_0_E (s : State) : Result := setBit 0 (.reg .e) s
/-- R235 `SET 0,H` (0xCB 0xC4). -/
def execSet_0_H (s : State) : Result := setBit 0 (.reg .h) s
/-- R235 `SET 0,L` (0xCB 0xC5). -/
def execSet_0_L (s : State) : Result := setBit 0 (.reg .l) s
/-- R236 `SET 0,(HL)` (0xCB 0xC6). -/
def execSet_0_atHL (s : State) : Result := setBit 0 (.atHL) s
/-- R235 `SET 0,A` (0xCB 0xC7). -/
def execSet_0_A (s : State) : Result := setBit 0 (.reg .a) s
/-- R235 `SET 1,B` (0xCB 0xC8). -/
def execSet_1_B (s : State) : Result := setBit 1 (.reg .b) s
/-- R235 `SET 1,C` (0xCB 0xC9). -/
def execSet_1_C (s : State) : Result := setBit 1 (.reg .c) s
/-- R235 `SET 1,D` (0xCB 0xCA). -/
def execSet_1_D (s : State) : Result := setBit 1 (.reg .d) s
/-- R235 `SET 1,E` (0xCB 0xCB). -/
def execSet_1_E (s : State) : Result := setBit 1 (.reg .e) s
/-- R235 `SET 1,H` (0xCB 0xCC). -/
def execSet_1_H (s : State) : Result := setBit 1 (.reg .h) s
/-- R235 `SET 1,L` (0xCB 0xCD). -/
def execSet_1_L (s : State) : Result := setBit 1 (.reg .l) s
/-- R236 `SET 1,(HL)` (0xCB 0xCE). -/
def execSet_1_atHL (s : State) : Result := setBit 1 (.atHL) s
/-- R235 `SET 1,A` (0xCB 0xCF). -/
def execSet_1_A (s : State) : Result := setBit 1 (.reg .a) s
/-- R235 `SET 2,B` (0xCB 0xD0). -/
def execSet_2_B (s : State) : Result := setBit 2 (.reg .b) s
/-- R235 `SET 2,C` (0xCB 0xD1). -/
def execSet_2_C (s : State) : Result := setBit 2 (.reg .c) s
/-- R235 `SET 2,D` (0xCB 0xD2). -/
def execSet_2_D (s : State) : Result := setBit 2 (.reg .d) s
/-- R235 `SET 2,E` (0xCB 0xD3). -/
def execSet_2_E (s : State) : Result := setBit 2 (.reg .e) s
/-- R235 `SET 2,H` (0xCB 0xD4). -/
def execSet_2_H (s : State) : Result := setBit 2 (.reg .h) s
/-- R235 `SET 2,L` (0xCB 0xD5). -/
def execSet_2_L (s : State) : Result := setBit 2 (.reg .l) s
/-- R236 `SET 2,(HL)` (0xCB 0xD6). -/
def execSet_2_atHL (s : State) : Result := setBit 2 (.atHL) s
/-- R235 `SET 2,A` (0xCB 0xD7). -/
def execSet_2_A (s : State) : Result := setBit 2 (.reg .a) s
/-- R235 `SET 3,B` (0xCB 0xD8). -/
def execSet_3_B (s : State) : Result := setBit 3 (.reg .b) s
/-- R235 `SET 3,C` (0xCB 0xD9). -/
def execSet_3_C (s : State) : Result := setBit 3 (.reg .c) s
/-- R235 `SET 3,D` (0xCB 0xDA). -/
def execSet_3_D (s : State) : Result := setBit 3 (.reg .d) s
/-- R235 `SET 3,E` (0xCB 0xDB). -/
def execSet_3_E (s : State) : Result := setBit 3 (.reg .e) s
/-- R235 `SET 3,H` (0xCB 0xDC). -/
def execSet_3_H (s : State) : Result := setBit 3 (.reg .h) s
/-- R235 `SET 3,L` (0xCB 0xDD). -/
def execSet_3_L (s : State) : Result := setBit 3 (.reg .l) s
/-- R236 `SET 3,(HL)` (0xCB 0xDE). -/
def execSet_3_atHL (s : State) : Result := setBit 3 (.atHL) s
/-- R235 `SET 3,A` (0xCB 0xDF). -/
def execSet_3_A (s : State) : Result := setBit 3 (.reg .a) s
/-- R235 `SET 4,B` (0xCB 0xE0). -/
def execSet_4_B (s : State) : Result := setBit 4 (.reg .b) s
/-- R235 `SET 4,C` (0xCB 0xE1). -/
def execSet_4_C (s : State) : Result := setBit 4 (.reg .c) s
/-- R235 `SET 4,D` (0xCB 0xE2). -/
def execSet_4_D (s : State) : Result := setBit 4 (.reg .d) s
/-- R235 `SET 4,E` (0xCB 0xE3). -/
def execSet_4_E (s : State) : Result := setBit 4 (.reg .e) s
/-- R235 `SET 4,H` (0xCB 0xE4). -/
def execSet_4_H (s : State) : Result := setBit 4 (.reg .h) s
/-- R235 `SET 4,L` (0xCB 0xE5). -/
def execSet_4_L (s : State) : Result := setBit 4 (.reg .l) s
/-- R236 `SET 4,(HL)` (0xCB 0xE6). -/
def execSet_4_atHL (s : State) : Result := setBit 4 (.atHL) s
/-- R235 `SET 4,A` (0xCB 0xE7). -/
def execSet_4_A (s : State) : Result := setBit 4 (.reg .a) s
/-- R235 `SET 5,B` (0xCB 0xE8). -/
def execSet_5_B (s : State) : Result := setBit 5 (.reg .b) s
/-- R235 `SET 5,C` (0xCB 0xE9). -/
def execSet_5_C (s : State) : Result := setBit 5 (.reg .c) s
/-- R235 `SET 5,D` (0xCB 0xEA). -/
def execSet_5_D (s : State) : Result := setBit 5 (.reg .d) s
/-- R235 `SET 5,E` (0xCB 0xEB). -/
def execSet_5_E (s : State) : Result := setBit 5 (.reg .e) s
/-- R235 `SET 5,H` (0xCB 0xEC). -/
def execSet_5_H (s : State) : Result := setBit 5 (.reg .h) s
/-- R235 `SET 5,L` (0xCB 0xED). -/
def execSet_5_L (s : State) : Result := setBit 5 (.reg .l) s
/-- R236 `SET 5,(HL)` (0xCB 0xEE). -/
def execSet_5_atHL (s : State) : Result := setBit 5 (.atHL) s
/-- R235 `SET 5,A` (0xCB 0xEF). -/
def execSet_5_A (s : State) : Result := setBit 5 (.reg .a) s
/-- R235 `SET 6,B` (0xCB 0xF0). -/
def execSet_6_B (s : State) : Result := setBit 6 (.reg .b) s
/-- R235 `SET 6,C` (0xCB 0xF1). -/
def execSet_6_C (s : State) : Result := setBit 6 (.reg .c) s
/-- R235 `SET 6,D` (0xCB 0xF2). -/
def execSet_6_D (s : State) : Result := setBit 6 (.reg .d) s
/-- R235 `SET 6,E` (0xCB 0xF3). -/
def execSet_6_E (s : State) : Result := setBit 6 (.reg .e) s
/-- R235 `SET 6,H` (0xCB 0xF4). -/
def execSet_6_H (s : State) : Result := setBit 6 (.reg .h) s
/-- R235 `SET 6,L` (0xCB 0xF5). -/
def execSet_6_L (s : State) : Result := setBit 6 (.reg .l) s
/-- R236 `SET 6,(HL)` (0xCB 0xF6). -/
def execSet_6_atHL (s : State) : Result := setBit 6 (.atHL) s
/-- R235 `SET 6,A` (0xCB 0xF7). -/
def execSet_6_A (s : State) : Result := setBit 6 (.reg .a) s
/-- R235 `SET 7,B` (0xCB 0xF8). -/
def execSet_7_B (s : State) : Result := setBit 7 (.reg .b) s
/-- R235 `SET 7,C` (0xCB 0xF9). -/
def execSet_7_C (s : State) : Result := setBit 7 (.reg .c) s
/-- R235 `SET 7,D` (0xCB 0xFA). -/
def execSet_7_D (s : State) : Result := setBit 7 (.reg .d) s
/-- R235 `SET 7,E` (0xCB 0xFB). -/
def execSet_7_E (s : State) : Result := setBit 7 (.reg .e) s
/-- R235 `SET 7,H` (0xCB 0xFC). -/
def execSet_7_H (s : State) : Result := setBit 7 (.reg .h) s
/-- R235 `SET 7,L` (0xCB 0xFD). -/
def execSet_7_L (s : State) : Result := setBit 7 (.reg .l) s
/-- R236 `SET 7,(HL)` (0xCB 0xFE). -/
def execSet_7_atHL (s : State) : Result := setBit 7 (.atHL) s
/-- R235 `SET 7,A` (0xCB 0xFF). -/
def execSet_7_A (s : State) : Result := setBit 7 (.reg .a) s

end Sys2Proof.Machine
end

