-- ==== Sys2Proof/Machine/Control.lean ====
section
/-! DEFINITION. Jumps, calls, returns, restarts (45_control.md). `pc` is already past the whole instruction (R251). -/

namespace Sys2Proof.Machine

/-- `pc <- nn` (R240). -/
def jump (nn : Word) (s : State) : Result := .next (s.setPc nn)

/-- R241. -/
def jumpIf (cc : Cond) (nn : Word) (s : State) : Result := if s.cpu.holds cc then jump nn s else .next s

/-- R242. -/
def jumpHL (s : State) : Result := .next (s.setPc (s.pair .hl))

/-- R243. -/
def jumpRel (e : Byte) (s : State) : Result := .next (s.setPc (s.cpu.pc + sext e))

/-- R244. -/
def jumpRelIf (cc : Cond) (e : Byte) (s : State) : Result := if s.cpu.holds cc then jumpRel e s else .next s

/-- `Push16(pc); pc <- nn` (R245). -/
def call (nn : Word) (s : State) : Result :=
  ((pushWord s.cpu.pc s).bind fun _ s => .done () (s.setPc nn)).outcome

/-- R246. -/
def callIf (cc : Cond) (nn : Word) (s : State) : Result := if s.cpu.holds cc then call nn s else .next s

/-- R247. -/
def ret (s : State) : Result := (returnWord s).outcome

/-- R248. -/
def returnIf (cc : Cond) (s : State) : Result := if s.cpu.holds cc then ret s else .next s

/-- R249; `ei_pending` is left as it is. -/
def reti (s : State) : Result := (returnInterruptWord s).outcome

/-- `Push16(pc); pc <- 8 * t` (R250). -/
def restart (t : BitVec 3) (s : State) : Result := call (8 * t.setWidth 16) s

/-- R243 `JR e` (0x18). -/
def execJr_e (e : Byte) (s : State) : Result := jumpRel e s
/-- R244 `JR NZ,e` (0x20). -/
def execJr_NZ_e (e : Byte) (s : State) : Result := jumpRelIf .nz e s
/-- R244 `JR Z,e` (0x28). -/
def execJr_Z_e (e : Byte) (s : State) : Result := jumpRelIf .z e s
/-- R244 `JR NC,e` (0x30). -/
def execJr_NC_e (e : Byte) (s : State) : Result := jumpRelIf .nc e s
/-- R244 `JR C,e` (0x38). -/
def execJr_C_e (e : Byte) (s : State) : Result := jumpRelIf .c e s
/-- R248 `RET NZ` (0xC0). -/
def execRet_NZ (s : State) : Result := returnIf .nz s
/-- R241 `JP NZ,nn` (0xC2). -/
def execJp_NZ_nn (nn : Word) (s : State) : Result := jumpIf .nz nn s
/-- R240 `JP nn` (0xC3). -/
def execJp_nn (nn : Word) (s : State) : Result := jump nn s
/-- R246 `CALL NZ,nn` (0xC4). -/
def execCall_NZ_nn (nn : Word) (s : State) : Result := callIf .nz nn s
/-- R250 `RST 0x00` (0xC7). -/
def execRst_00 (s : State) : Result := restart 0 s
/-- R248 `RET Z` (0xC8). -/
def execRet_Z (s : State) : Result := returnIf .z s
/-- R247 `RET` (0xC9). -/
def execRet (s : State) : Result := ret s
/-- R241 `JP Z,nn` (0xCA). -/
def execJp_Z_nn (nn : Word) (s : State) : Result := jumpIf .z nn s
/-- R246 `CALL Z,nn` (0xCC). -/
def execCall_Z_nn (nn : Word) (s : State) : Result := callIf .z nn s
/-- R245 `CALL nn` (0xCD). -/
def execCall_nn (nn : Word) (s : State) : Result := call nn s
/-- R250 `RST 0x08` (0xCF). -/
def execRst_08 (s : State) : Result := restart 1 s
/-- R248 `RET NC` (0xD0). -/
def execRet_NC (s : State) : Result := returnIf .nc s
/-- R241 `JP NC,nn` (0xD2). -/
def execJp_NC_nn (nn : Word) (s : State) : Result := jumpIf .nc nn s
/-- R246 `CALL NC,nn` (0xD4). -/
def execCall_NC_nn (nn : Word) (s : State) : Result := callIf .nc nn s
/-- R250 `RST 0x10` (0xD7). -/
def execRst_10 (s : State) : Result := restart 2 s
/-- R248 `RET C` (0xD8). -/
def execRet_C (s : State) : Result := returnIf .c s
/-- R249 `RETI` (0xD9). -/
def execReti (s : State) : Result := reti s
/-- R241 `JP C,nn` (0xDA). -/
def execJp_C_nn (nn : Word) (s : State) : Result := jumpIf .c nn s
/-- R246 `CALL C,nn` (0xDC). -/
def execCall_C_nn (nn : Word) (s : State) : Result := callIf .c nn s
/-- R250 `RST 0x18` (0xDF). -/
def execRst_18 (s : State) : Result := restart 3 s
/-- R250 `RST 0x20` (0xE7). -/
def execRst_20 (s : State) : Result := restart 4 s
/-- R242 `JP HL` (0xE9). -/
def execJp_HL (s : State) : Result := jumpHL s
/-- R250 `RST 0x28` (0xEF). -/
def execRst_28 (s : State) : Result := restart 5 s
/-- R250 `RST 0x30` (0xF7). -/
def execRst_30 (s : State) : Result := restart 6 s
/-- R250 `RST 0x38` (0xFF). -/
def execRst_38 (s : State) : Result := restart 7 s

end Sys2Proof.Machine
end

