-- ==== Sys2Proof/Machine/Load16.lean ====
section
/-! DEFINITION. 16-bit loads and the stack (41_load16_stack.md). -/

namespace Sys2Proof.Machine

/-- `rr <- nn` (R152). -/
def loadPair (rr : Pair) (nn : Word) (s : State) : Result := .next (s.setPair rr nn)

/-- `MemWrite(nn, 2, sp)` (R153). -/
def storeSP (nn : Word) (s : State) : Result := (writeWord nn s.cpu.sp s).outcome

/-- `sp <- HL` (R154). -/
def loadSPHL (s : State) : Result := .next (s.setSp (s.pair .hl))

/-- `HL <- sp + e` with the flags of the low-byte sum (R155). -/
def loadHLSPe (e : Byte) (s : State) : Result :=
  let (v, f) := spPlusE s.cpu.sp e
  .next ((s.setPair .hl v).setFlags f)

/-- `Push16(qq)` (R156). -/
def pushPair (qq : StackPair) (s : State) : Result := (pushWord (s.stackPair qq) s).outcome

/-- `qq <- Pop16()` (R157). -/
def popPair (qq : StackPair) (s : State) : Result :=
  ((popWord s).bind fun v s => .done () (s.setStackPair qq v)).outcome

/-- R152 `LD BC,nn` (0x01). -/
def execLd_BC_nn (nn : Word) (s : State) : Result := loadPair .bc nn s
/-- R153 `LD (nn),SP` (0x08). -/
def execLd_atNn_SP (nn : Word) (s : State) : Result := storeSP nn s
/-- R152 `LD DE,nn` (0x11). -/
def execLd_DE_nn (nn : Word) (s : State) : Result := loadPair .de nn s
/-- R152 `LD HL,nn` (0x21). -/
def execLd_HL_nn (nn : Word) (s : State) : Result := loadPair .hl nn s
/-- R152 `LD SP,nn` (0x31). -/
def execLd_SP_nn (nn : Word) (s : State) : Result := loadPair .sp nn s
/-- R157 `POP BC` (0xC1). -/
def execPop_BC (s : State) : Result := popPair .bc s
/-- R156 `PUSH BC` (0xC5). -/
def execPush_BC (s : State) : Result := pushPair .bc s
/-- R157 `POP DE` (0xD1). -/
def execPop_DE (s : State) : Result := popPair .de s
/-- R156 `PUSH DE` (0xD5). -/
def execPush_DE (s : State) : Result := pushPair .de s
/-- R157 `POP HL` (0xE1). -/
def execPop_HL (s : State) : Result := popPair .hl s
/-- R156 `PUSH HL` (0xE5). -/
def execPush_HL (s : State) : Result := pushPair .hl s
/-- R157 `POP AF` (0xF1). -/
def execPop_AF (s : State) : Result := popPair .af s
/-- R156 `PUSH AF` (0xF5). -/
def execPush_AF (s : State) : Result := pushPair .af s
/-- R155 `LD HL,SP+e` (0xF8). -/
def execLd_HL_SPe (e : Byte) (s : State) : Result := loadHLSPe e s
/-- R154 `LD SP,HL` (0xF9). -/
def execLd_SP_HL (s : State) : Result := loadSPHL s

end Sys2Proof.Machine
end

