-- ==== Sys2Proof/Machine/Load8.lean ====
section
/-! DEFINITION. 8-bit loads (40_load8.md). No load writes a flag. -/

namespace Sys2Proof.Machine

/-- `d <- s`, registers or the byte at `HL` (R131, R133, R134). -/
def load8 (d s : R8) (σ : State) : Result :=
  ((readR8 s σ).bind fun v σ => writeR8 d v σ).outcome

/-- `d <- n` (R132, R135). -/
def loadImm8 (d : R8) (n : Byte) (s : State) : Result := (writeR8 d n s).outcome

/-- `A <- MemRead(address, 1)`, then the operand's update of `HL` (R130). -/
def loadA (m : AccMem) (s : State) : Result :=
  ((readByte (accAddress m s) s).bind fun v s => .done () (accUpdate m (s.setReg .a v))).outcome

/-- `MemWrite(address, 1, A)`, then the operand's update of `HL`; none if the write faults (R130, R146). -/
def storeA (m : AccMem) (s : State) : Result :=
  ((writeByte (accAddress m s) (s.reg .a) s).bind fun _ s => .done () (accUpdate m s)).outcome

/-- R138 `LD (BC),A` (0x02). -/
def execLd_atBC_A (s : State) : Result := storeA .bc s
/-- R132 `LD B,n` (0x06). -/
def execLd_B_n (n : Byte) (s : State) : Result := loadImm8 (.reg .b) n s
/-- R136 `LD A,(BC)` (0x0A). -/
def execLd_A_atBC (s : State) : Result := loadA .bc s
/-- R132 `LD C,n` (0x0E). -/
def execLd_C_n (n : Byte) (s : State) : Result := loadImm8 (.reg .c) n s
/-- R139 `LD (DE),A` (0x12). -/
def execLd_atDE_A (s : State) : Result := storeA .de s
/-- R132 `LD D,n` (0x16). -/
def execLd_D_n (n : Byte) (s : State) : Result := loadImm8 (.reg .d) n s
/-- R137 `LD A,(DE)` (0x1A). -/
def execLd_A_atDE (s : State) : Result := loadA .de s
/-- R132 `LD E,n` (0x1E). -/
def execLd_E_n (n : Byte) (s : State) : Result := loadImm8 (.reg .e) n s
/-- R146 `LD (HL+),A` (0x22). -/
def execLd_atHLinc_A (s : State) : Result := storeA .hlInc s
/-- R132 `LD H,n` (0x26). -/
def execLd_H_n (n : Byte) (s : State) : Result := loadImm8 (.reg .h) n s
/-- R147 `LD A,(HL+)` (0x2A). -/
def execLd_A_atHLinc (s : State) : Result := loadA .hlInc s
/-- R132 `LD L,n` (0x2E). -/
def execLd_L_n (n : Byte) (s : State) : Result := loadImm8 (.reg .l) n s
/-- R148 `LD (HL-),A` (0x32). -/
def execLd_atHLdec_A (s : State) : Result := storeA .hlDec s
/-- R135 `LD (HL),n` (0x36). -/
def execLd_atHL_n (n : Byte) (s : State) : Result := loadImm8 (.atHL) n s
/-- R149 `LD A,(HL-)` (0x3A). -/
def execLd_A_atHLdec (s : State) : Result := loadA .hlDec s
/-- R132 `LD A,n` (0x3E). -/
def execLd_A_n (n : Byte) (s : State) : Result := loadImm8 (.reg .a) n s
/-- R131 `LD B,B` (0x40). -/
def execLd_B_B (s : State) : Result := load8 (.reg .b) (.reg .b) s
/-- R131 `LD B,C` (0x41). -/
def execLd_B_C (s : State) : Result := load8 (.reg .b) (.reg .c) s
/-- R131 `LD B,D` (0x42). -/
def execLd_B_D (s : State) : Result := load8 (.reg .b) (.reg .d) s
/-- R131 `LD B,E` (0x43). -/
def execLd_B_E (s : State) : Result := load8 (.reg .b) (.reg .e) s
/-- R131 `LD B,H` (0x44). -/
def execLd_B_H (s : State) : Result := load8 (.reg .b) (.reg .h) s
/-- R131 `LD B,L` (0x45). -/
def execLd_B_L (s : State) : Result := load8 (.reg .b) (.reg .l) s
/-- R133 `LD B,(HL)` (0x46). -/
def execLd_B_atHL (s : State) : Result := load8 (.reg .b) (.atHL) s
/-- R131 `LD B,A` (0x47). -/
def execLd_B_A (s : State) : Result := load8 (.reg .b) (.reg .a) s
/-- R131 `LD C,B` (0x48). -/
def execLd_C_B (s : State) : Result := load8 (.reg .c) (.reg .b) s
/-- R131 `LD C,C` (0x49). -/
def execLd_C_C (s : State) : Result := load8 (.reg .c) (.reg .c) s
/-- R131 `LD C,D` (0x4A). -/
def execLd_C_D (s : State) : Result := load8 (.reg .c) (.reg .d) s
/-- R131 `LD C,E` (0x4B). -/
def execLd_C_E (s : State) : Result := load8 (.reg .c) (.reg .e) s
/-- R131 `LD C,H` (0x4C). -/
def execLd_C_H (s : State) : Result := load8 (.reg .c) (.reg .h) s
/-- R131 `LD C,L` (0x4D). -/
def execLd_C_L (s : State) : Result := load8 (.reg .c) (.reg .l) s
/-- R133 `LD C,(HL)` (0x4E). -/
def execLd_C_atHL (s : State) : Result := load8 (.reg .c) (.atHL) s
/-- R131 `LD C,A` (0x4F). -/
def execLd_C_A (s : State) : Result := load8 (.reg .c) (.reg .a) s
/-- R131 `LD D,B` (0x50). -/
def execLd_D_B (s : State) : Result := load8 (.reg .d) (.reg .b) s
/-- R131 `LD D,C` (0x51). -/
def execLd_D_C (s : State) : Result := load8 (.reg .d) (.reg .c) s
/-- R131 `LD D,D` (0x52). -/
def execLd_D_D (s : State) : Result := load8 (.reg .d) (.reg .d) s
/-- R131 `LD D,E` (0x53). -/
def execLd_D_E (s : State) : Result := load8 (.reg .d) (.reg .e) s
/-- R131 `LD D,H` (0x54). -/
def execLd_D_H (s : State) : Result := load8 (.reg .d) (.reg .h) s
/-- R131 `LD D,L` (0x55). -/
def execLd_D_L (s : State) : Result := load8 (.reg .d) (.reg .l) s
/-- R133 `LD D,(HL)` (0x56). -/
def execLd_D_atHL (s : State) : Result := load8 (.reg .d) (.atHL) s
/-- R131 `LD D,A` (0x57). -/
def execLd_D_A (s : State) : Result := load8 (.reg .d) (.reg .a) s
/-- R131 `LD E,B` (0x58). -/
def execLd_E_B (s : State) : Result := load8 (.reg .e) (.reg .b) s
/-- R131 `LD E,C` (0x59). -/
def execLd_E_C (s : State) : Result := load8 (.reg .e) (.reg .c) s
/-- R131 `LD E,D` (0x5A). -/
def execLd_E_D (s : State) : Result := load8 (.reg .e) (.reg .d) s
/-- R131 `LD E,E` (0x5B). -/
def execLd_E_E (s : State) : Result := load8 (.reg .e) (.reg .e) s
/-- R131 `LD E,H` (0x5C). -/
def execLd_E_H (s : State) : Result := load8 (.reg .e) (.reg .h) s
/-- R131 `LD E,L` (0x5D). -/
def execLd_E_L (s : State) : Result := load8 (.reg .e) (.reg .l) s
/-- R133 `LD E,(HL)` (0x5E). -/
def execLd_E_atHL (s : State) : Result := load8 (.reg .e) (.atHL) s
/-- R131 `LD E,A` (0x5F). -/
def execLd_E_A (s : State) : Result := load8 (.reg .e) (.reg .a) s
/-- R131 `LD H,B` (0x60). -/
def execLd_H_B (s : State) : Result := load8 (.reg .h) (.reg .b) s
/-- R131 `LD H,C` (0x61). -/
def execLd_H_C (s : State) : Result := load8 (.reg .h) (.reg .c) s
/-- R131 `LD H,D` (0x62). -/
def execLd_H_D (s : State) : Result := load8 (.reg .h) (.reg .d) s
/-- R131 `LD H,E` (0x63). -/
def execLd_H_E (s : State) : Result := load8 (.reg .h) (.reg .e) s
/-- R131 `LD H,H` (0x64). -/
def execLd_H_H (s : State) : Result := load8 (.reg .h) (.reg .h) s
/-- R131 `LD H,L` (0x65). -/
def execLd_H_L (s : State) : Result := load8 (.reg .h) (.reg .l) s
/-- R133 `LD H,(HL)` (0x66). -/
def execLd_H_atHL (s : State) : Result := load8 (.reg .h) (.atHL) s
/-- R131 `LD H,A` (0x67). -/
def execLd_H_A (s : State) : Result := load8 (.reg .h) (.reg .a) s
/-- R131 `LD L,B` (0x68). -/
def execLd_L_B (s : State) : Result := load8 (.reg .l) (.reg .b) s
/-- R131 `LD L,C` (0x69). -/
def execLd_L_C (s : State) : Result := load8 (.reg .l) (.reg .c) s
/-- R131 `LD L,D` (0x6A). -/
def execLd_L_D (s : State) : Result := load8 (.reg .l) (.reg .d) s
/-- R131 `LD L,E` (0x6B). -/
def execLd_L_E (s : State) : Result := load8 (.reg .l) (.reg .e) s
/-- R131 `LD L,H` (0x6C). -/
def execLd_L_H (s : State) : Result := load8 (.reg .l) (.reg .h) s
/-- R131 `LD L,L` (0x6D). -/
def execLd_L_L (s : State) : Result := load8 (.reg .l) (.reg .l) s
/-- R133 `LD L,(HL)` (0x6E). -/
def execLd_L_atHL (s : State) : Result := load8 (.reg .l) (.atHL) s
/-- R131 `LD L,A` (0x6F). -/
def execLd_L_A (s : State) : Result := load8 (.reg .l) (.reg .a) s
/-- R134 `LD (HL),B` (0x70). -/
def execLd_atHL_B (s : State) : Result := load8 (.atHL) (.reg .b) s
/-- R134 `LD (HL),C` (0x71). -/
def execLd_atHL_C (s : State) : Result := load8 (.atHL) (.reg .c) s
/-- R134 `LD (HL),D` (0x72). -/
def execLd_atHL_D (s : State) : Result := load8 (.atHL) (.reg .d) s
/-- R134 `LD (HL),E` (0x73). -/
def execLd_atHL_E (s : State) : Result := load8 (.atHL) (.reg .e) s
/-- R134 `LD (HL),H` (0x74). -/
def execLd_atHL_H (s : State) : Result := load8 (.atHL) (.reg .h) s
/-- R134 `LD (HL),L` (0x75). -/
def execLd_atHL_L (s : State) : Result := load8 (.atHL) (.reg .l) s
/-- R134 `LD (HL),A` (0x77). -/
def execLd_atHL_A (s : State) : Result := load8 (.atHL) (.reg .a) s
/-- R131 `LD A,B` (0x78). -/
def execLd_A_B (s : State) : Result := load8 (.reg .a) (.reg .b) s
/-- R131 `LD A,C` (0x79). -/
def execLd_A_C (s : State) : Result := load8 (.reg .a) (.reg .c) s
/-- R131 `LD A,D` (0x7A). -/
def execLd_A_D (s : State) : Result := load8 (.reg .a) (.reg .d) s
/-- R131 `LD A,E` (0x7B). -/
def execLd_A_E (s : State) : Result := load8 (.reg .a) (.reg .e) s
/-- R131 `LD A,H` (0x7C). -/
def execLd_A_H (s : State) : Result := load8 (.reg .a) (.reg .h) s
/-- R131 `LD A,L` (0x7D). -/
def execLd_A_L (s : State) : Result := load8 (.reg .a) (.reg .l) s
/-- R133 `LD A,(HL)` (0x7E). -/
def execLd_A_atHL (s : State) : Result := load8 (.reg .a) (.atHL) s
/-- R131 `LD A,A` (0x7F). -/
def execLd_A_A (s : State) : Result := load8 (.reg .a) (.reg .a) s
/-- R145 `LDH (n),A` (0xE0). -/
def execLdh_atN_A (n : Byte) (s : State) : Result := storeA (.io n) s
/-- R143 `LDH (C),A` (0xE2). -/
def execLdh_atC_A (s : State) : Result := storeA .ioC s
/-- R141 `LD (nn),A` (0xEA). -/
def execLd_atNn_A (nn : Word) (s : State) : Result := storeA (.abs nn) s
/-- R144 `LDH A,(n)` (0xF0). -/
def execLdh_A_atN (n : Byte) (s : State) : Result := loadA (.io n) s
/-- R142 `LDH A,(C)` (0xF2). -/
def execLdh_A_atC (s : State) : Result := loadA .ioC s
/-- R140 `LD A,(nn)` (0xFA). -/
def execLd_A_atNn (nn : Word) (s : State) : Result := loadA (.abs nn) s

end Sys2Proof.Machine
end

