-- ==== Sys2Proof/Machine/RotateShift.lean ====
section
/-! DEFINITION. Rotates of `A`, and the rotates and shifts of the extended space (44_rotate_shift_bit.md, sections 2 and 3). -/

namespace Sys2Proof.Machine

/-- A rotate of `A` in the standard space (R211 to R214). -/
def rotateA (k : RotOp) (s : State) : Result :=
  let (r, c) := rotOp k (s.reg .a) s.cpu.flags.c
  .next ((s.setReg .a r).setFlags (rotAFlags c))

/-- A rotate, shift or `SWAP` of a byte and the old flags, with the new ones (R210). -/
def rotate (k : RotOp) (v : Byte) (f : Flags) : Byte × Flags :=
  let (r, c) := rotOp k v f.c
  (r, rotFlags r c)

/-- A rotate or shift of the extended space (R215 to R230). -/
def rotate8 (k : RotOp) (o : R8) (s : State) : Result := modify8 o (rotate k) s

/-- R211 `RLCA` (0x07). -/
def execRlca (s : State) : Result := rotateA .rlc s
/-- R212 `RRCA` (0x0F). -/
def execRrca (s : State) : Result := rotateA .rrc s
/-- R213 `RLA` (0x17). -/
def execRla (s : State) : Result := rotateA .rl s
/-- R214 `RRA` (0x1F). -/
def execRra (s : State) : Result := rotateA .rr s
/-- R215 `RLC B` (0xCB 0x00). -/
def execRlc_B (s : State) : Result := rotate8 .rlc (.reg .b) s
/-- R215 `RLC C` (0xCB 0x01). -/
def execRlc_C (s : State) : Result := rotate8 .rlc (.reg .c) s
/-- R215 `RLC D` (0xCB 0x02). -/
def execRlc_D (s : State) : Result := rotate8 .rlc (.reg .d) s
/-- R215 `RLC E` (0xCB 0x03). -/
def execRlc_E (s : State) : Result := rotate8 .rlc (.reg .e) s
/-- R215 `RLC H` (0xCB 0x04). -/
def execRlc_H (s : State) : Result := rotate8 .rlc (.reg .h) s
/-- R215 `RLC L` (0xCB 0x05). -/
def execRlc_L (s : State) : Result := rotate8 .rlc (.reg .l) s
/-- R216 `RLC (HL)` (0xCB 0x06). -/
def execRlc_atHL (s : State) : Result := rotate8 .rlc (.atHL) s
/-- R215 `RLC A` (0xCB 0x07). -/
def execRlc_A (s : State) : Result := rotate8 .rlc (.reg .a) s
/-- R217 `RRC B` (0xCB 0x08). -/
def execRrc_B (s : State) : Result := rotate8 .rrc (.reg .b) s
/-- R217 `RRC C` (0xCB 0x09). -/
def execRrc_C (s : State) : Result := rotate8 .rrc (.reg .c) s
/-- R217 `RRC D` (0xCB 0x0A). -/
def execRrc_D (s : State) : Result := rotate8 .rrc (.reg .d) s
/-- R217 `RRC E` (0xCB 0x0B). -/
def execRrc_E (s : State) : Result := rotate8 .rrc (.reg .e) s
/-- R217 `RRC H` (0xCB 0x0C). -/
def execRrc_H (s : State) : Result := rotate8 .rrc (.reg .h) s
/-- R217 `RRC L` (0xCB 0x0D). -/
def execRrc_L (s : State) : Result := rotate8 .rrc (.reg .l) s
/-- R218 `RRC (HL)` (0xCB 0x0E). -/
def execRrc_atHL (s : State) : Result := rotate8 .rrc (.atHL) s
/-- R217 `RRC A` (0xCB 0x0F). -/
def execRrc_A (s : State) : Result := rotate8 .rrc (.reg .a) s
/-- R219 `RL B` (0xCB 0x10). -/
def execRl_B (s : State) : Result := rotate8 .rl (.reg .b) s
/-- R219 `RL C` (0xCB 0x11). -/
def execRl_C (s : State) : Result := rotate8 .rl (.reg .c) s
/-- R219 `RL D` (0xCB 0x12). -/
def execRl_D (s : State) : Result := rotate8 .rl (.reg .d) s
/-- R219 `RL E` (0xCB 0x13). -/
def execRl_E (s : State) : Result := rotate8 .rl (.reg .e) s
/-- R219 `RL H` (0xCB 0x14). -/
def execRl_H (s : State) : Result := rotate8 .rl (.reg .h) s
/-- R219 `RL L` (0xCB 0x15). -/
def execRl_L (s : State) : Result := rotate8 .rl (.reg .l) s
/-- R220 `RL (HL)` (0xCB 0x16). -/
def execRl_atHL (s : State) : Result := rotate8 .rl (.atHL) s
/-- R219 `RL A` (0xCB 0x17). -/
def execRl_A (s : State) : Result := rotate8 .rl (.reg .a) s
/-- R221 `RR B` (0xCB 0x18). -/
def execRr_B (s : State) : Result := rotate8 .rr (.reg .b) s
/-- R221 `RR C` (0xCB 0x19). -/
def execRr_C (s : State) : Result := rotate8 .rr (.reg .c) s
/-- R221 `RR D` (0xCB 0x1A). -/
def execRr_D (s : State) : Result := rotate8 .rr (.reg .d) s
/-- R221 `RR E` (0xCB 0x1B). -/
def execRr_E (s : State) : Result := rotate8 .rr (.reg .e) s
/-- R221 `RR H` (0xCB 0x1C). -/
def execRr_H (s : State) : Result := rotate8 .rr (.reg .h) s
/-- R221 `RR L` (0xCB 0x1D). -/
def execRr_L (s : State) : Result := rotate8 .rr (.reg .l) s
/-- R222 `RR (HL)` (0xCB 0x1E). -/
def execRr_atHL (s : State) : Result := rotate8 .rr (.atHL) s
/-- R221 `RR A` (0xCB 0x1F). -/
def execRr_A (s : State) : Result := rotate8 .rr (.reg .a) s
/-- R223 `SLA B` (0xCB 0x20). -/
def execSla_B (s : State) : Result := rotate8 .sla (.reg .b) s
/-- R223 `SLA C` (0xCB 0x21). -/
def execSla_C (s : State) : Result := rotate8 .sla (.reg .c) s
/-- R223 `SLA D` (0xCB 0x22). -/
def execSla_D (s : State) : Result := rotate8 .sla (.reg .d) s
/-- R223 `SLA E` (0xCB 0x23). -/
def execSla_E (s : State) : Result := rotate8 .sla (.reg .e) s
/-- R223 `SLA H` (0xCB 0x24). -/
def execSla_H (s : State) : Result := rotate8 .sla (.reg .h) s
/-- R223 `SLA L` (0xCB 0x25). -/
def execSla_L (s : State) : Result := rotate8 .sla (.reg .l) s
/-- R224 `SLA (HL)` (0xCB 0x26). -/
def execSla_atHL (s : State) : Result := rotate8 .sla (.atHL) s
/-- R223 `SLA A` (0xCB 0x27). -/
def execSla_A (s : State) : Result := rotate8 .sla (.reg .a) s
/-- R225 `SRA B` (0xCB 0x28). -/
def execSra_B (s : State) : Result := rotate8 .sra (.reg .b) s
/-- R225 `SRA C` (0xCB 0x29). -/
def execSra_C (s : State) : Result := rotate8 .sra (.reg .c) s
/-- R225 `SRA D` (0xCB 0x2A). -/
def execSra_D (s : State) : Result := rotate8 .sra (.reg .d) s
/-- R225 `SRA E` (0xCB 0x2B). -/
def execSra_E (s : State) : Result := rotate8 .sra (.reg .e) s
/-- R225 `SRA H` (0xCB 0x2C). -/
def execSra_H (s : State) : Result := rotate8 .sra (.reg .h) s
/-- R225 `SRA L` (0xCB 0x2D). -/
def execSra_L (s : State) : Result := rotate8 .sra (.reg .l) s
/-- R226 `SRA (HL)` (0xCB 0x2E). -/
def execSra_atHL (s : State) : Result := rotate8 .sra (.atHL) s
/-- R225 `SRA A` (0xCB 0x2F). -/
def execSra_A (s : State) : Result := rotate8 .sra (.reg .a) s
/-- R227 `SWAP B` (0xCB 0x30). -/
def execSwap_B (s : State) : Result := rotate8 .swap (.reg .b) s
/-- R227 `SWAP C` (0xCB 0x31). -/
def execSwap_C (s : State) : Result := rotate8 .swap (.reg .c) s
/-- R227 `SWAP D` (0xCB 0x32). -/
def execSwap_D (s : State) : Result := rotate8 .swap (.reg .d) s
/-- R227 `SWAP E` (0xCB 0x33). -/
def execSwap_E (s : State) : Result := rotate8 .swap (.reg .e) s
/-- R227 `SWAP H` (0xCB 0x34). -/
def execSwap_H (s : State) : Result := rotate8 .swap (.reg .h) s
/-- R227 `SWAP L` (0xCB 0x35). -/
def execSwap_L (s : State) : Result := rotate8 .swap (.reg .l) s
/-- R228 `SWAP (HL)` (0xCB 0x36). -/
def execSwap_atHL (s : State) : Result := rotate8 .swap (.atHL) s
/-- R227 `SWAP A` (0xCB 0x37). -/
def execSwap_A (s : State) : Result := rotate8 .swap (.reg .a) s
/-- R229 `SRL B` (0xCB 0x38). -/
def execSrl_B (s : State) : Result := rotate8 .srl (.reg .b) s
/-- R229 `SRL C` (0xCB 0x39). -/
def execSrl_C (s : State) : Result := rotate8 .srl (.reg .c) s
/-- R229 `SRL D` (0xCB 0x3A). -/
def execSrl_D (s : State) : Result := rotate8 .srl (.reg .d) s
/-- R229 `SRL E` (0xCB 0x3B). -/
def execSrl_E (s : State) : Result := rotate8 .srl (.reg .e) s
/-- R229 `SRL H` (0xCB 0x3C). -/
def execSrl_H (s : State) : Result := rotate8 .srl (.reg .h) s
/-- R229 `SRL L` (0xCB 0x3D). -/
def execSrl_L (s : State) : Result := rotate8 .srl (.reg .l) s
/-- R230 `SRL (HL)` (0xCB 0x3E). -/
def execSrl_atHL (s : State) : Result := rotate8 .srl (.atHL) s
/-- R229 `SRL A` (0xCB 0x3F). -/
def execSrl_A (s : State) : Result := rotate8 .srl (.reg .a) s

end Sys2Proof.Machine
end

