-- ==== Sys2Proof/Syntax.lean ====
section
/-! DEFINITION. The instruction set: ONE constructor per row of spec/opcode_table.json (512 rows, two opcode spaces of 256
entries, R2, R103, R111, R112). The comment of a row is the table's mnemonic as the spec's text writes it, then its opcode
byte (after `CB` for the extended space). `at` stands for the parentheses of a memory operand (R114). Operands of a
constructor are the immediates of its format: `n` an unsigned byte, `e` the raw byte of a signed displacement, `nn` a word
(R104 to R106), `op2` the byte after the prefix (R265). A register operand is part of the constructor, as it is of the row.
The rows with an immediate stand first, then the others, each in the table's order. -/

namespace Sys2Proof

inductive Instr where
  | ld_BC_nn (nn : Word)  -- LD BC,nn: 01
  | ld_B_n (n : Byte)  -- LD B,n: 06
  | ld_atNn_SP (nn : Word)  -- LD (nn),SP: 08
  | ld_C_n (n : Byte)  -- LD C,n: 0E
  | stop (n : Byte)  -- STOP: 10
  | ld_DE_nn (nn : Word)  -- LD DE,nn: 11
  | ld_D_n (n : Byte)  -- LD D,n: 16
  | jr_e (e : Byte)  -- JR e: 18
  | ld_E_n (n : Byte)  -- LD E,n: 1E
  | jr_NZ_e (e : Byte)  -- JR NZ,e: 20
  | ld_HL_nn (nn : Word)  -- LD HL,nn: 21
  | ld_H_n (n : Byte)  -- LD H,n: 26
  | jr_Z_e (e : Byte)  -- JR Z,e: 28
  | ld_L_n (n : Byte)  -- LD L,n: 2E
  | jr_NC_e (e : Byte)  -- JR NC,e: 30
  | ld_SP_nn (nn : Word)  -- LD SP,nn: 31
  | ld_atHL_n (n : Byte)  -- LD (HL),n: 36
  | jr_C_e (e : Byte)  -- JR C,e: 38
  | ld_A_n (n : Byte)  -- LD A,n: 3E
  | jp_NZ_nn (nn : Word)  -- JP NZ,nn: C2
  | jp_nn (nn : Word)  -- JP nn: C3
  | call_NZ_nn (nn : Word)  -- CALL NZ,nn: C4
  | add_A_n (n : Byte)  -- ADD A,n: C6
  | jp_Z_nn (nn : Word)  -- JP Z,nn: CA
  | prefix_CB (op2 : Byte)  -- PREFIX CB: CB
  | call_Z_nn (nn : Word)  -- CALL Z,nn: CC
  | call_nn (nn : Word)  -- CALL nn: CD
  | adc_A_n (n : Byte)  -- ADC A,n: CE
  | jp_NC_nn (nn : Word)  -- JP NC,nn: D2
  | call_NC_nn (nn : Word)  -- CALL NC,nn: D4
  | sub_n (n : Byte)  -- SUB n: D6
  | jp_C_nn (nn : Word)  -- JP C,nn: DA
  | call_C_nn (nn : Word)  -- CALL C,nn: DC
  | sbc_A_n (n : Byte)  -- SBC A,n: DE
  | ldh_atN_A (n : Byte)  -- LDH (n),A: E0
  | and_n (n : Byte)  -- AND n: E6
  | add_SP_e (e : Byte)  -- ADD SP,e: E8
  | ld_atNn_A (nn : Word)  -- LD (nn),A: EA
  | xor_n (n : Byte)  -- XOR n: EE
  | ldh_A_atN (n : Byte)  -- LDH A,(n): F0
  | or_n (n : Byte)  -- OR n: F6
  | ld_HL_SPe (e : Byte)  -- LD HL,SP+e: F8
  | ld_A_atNn (nn : Word)  -- LD A,(nn): FA
  | cp_n (n : Byte)  -- CP n: FE
  | nop  -- NOP: 00
  | ld_atBC_A  -- LD (BC),A: 02
  | inc_BC  -- INC BC: 03
  | inc_B  -- INC B: 04
  | dec_B  -- DEC B: 05
  | rlca  -- RLCA: 07
  | add_HL_BC  -- ADD HL,BC: 09
  | ld_A_atBC  -- LD A,(BC): 0A
  | dec_BC  -- DEC BC: 0B
  | inc_C  -- INC C: 0C
  | dec_C  -- DEC C: 0D
  | rrca  -- RRCA: 0F
  | ld_atDE_A  -- LD (DE),A: 12
  | inc_DE  -- INC DE: 13
  | inc_D  -- INC D: 14
  | dec_D  -- DEC D: 15
  | rla  -- RLA: 17
  | add_HL_DE  -- ADD HL,DE: 19
  | ld_A_atDE  -- LD A,(DE): 1A
  | dec_DE  -- DEC DE: 1B
  | inc_E  -- INC E: 1C
  | dec_E  -- DEC E: 1D
  | rra  -- RRA: 1F
  | ld_atHLinc_A  -- LD (HL+),A: 22
  | inc_HL  -- INC HL: 23
  | inc_H  -- INC H: 24
  | dec_H  -- DEC H: 25
  | daa  -- DAA: 27
  | add_HL_HL  -- ADD HL,HL: 29
  | ld_A_atHLinc  -- LD A,(HL+): 2A
  | dec_HL  -- DEC HL: 2B
  | inc_L  -- INC L: 2C
  | dec_L  -- DEC L: 2D
  | cpl  -- CPL: 2F
  | ld_atHLdec_A  -- LD (HL-),A: 32
  | inc_SP  -- INC SP: 33
  | inc_atHL  -- INC (HL): 34
  | dec_atHL  -- DEC (HL): 35
  | scf  -- SCF: 37
  | add_HL_SP  -- ADD HL,SP: 39
  | ld_A_atHLdec  -- LD A,(HL-): 3A
  | dec_SP  -- DEC SP: 3B
  | inc_A  -- INC A: 3C
  | dec_A  -- DEC A: 3D
  | ccf  -- CCF: 3F
  | ld_B_B  -- LD B,B: 40
  | ld_B_C  -- LD B,C: 41
  | ld_B_D  -- LD B,D: 42
  | ld_B_E  -- LD B,E: 43
  | ld_B_H  -- LD B,H: 44
  | ld_B_L  -- LD B,L: 45
  | ld_B_atHL  -- LD B,(HL): 46
  | ld_B_A  -- LD B,A: 47
  | ld_C_B  -- LD C,B: 48
  | ld_C_C  -- LD C,C: 49
  | ld_C_D  -- LD C,D: 4A
  | ld_C_E  -- LD C,E: 4B
  | ld_C_H  -- LD C,H: 4C
  | ld_C_L  -- LD C,L: 4D
  | ld_C_atHL  -- LD C,(HL): 4E
  | ld_C_A  -- LD C,A: 4F
  | ld_D_B  -- LD D,B: 50
  | ld_D_C  -- LD D,C: 51
  | ld_D_D  -- LD D,D: 52
  | ld_D_E  -- LD D,E: 53
  | ld_D_H  -- LD D,H: 54
  | ld_D_L  -- LD D,L: 55
  | ld_D_atHL  -- LD D,(HL): 56
  | ld_D_A  -- LD D,A: 57
  | ld_E_B  -- LD E,B: 58
  | ld_E_C  -- LD E,C: 59
  | ld_E_D  -- LD E,D: 5A
  | ld_E_E  -- LD E,E: 5B
  | ld_E_H  -- LD E,H: 5C
  | ld_E_L  -- LD E,L: 5D
  | ld_E_atHL  -- LD E,(HL): 5E
  | ld_E_A  -- LD E,A: 5F
  | ld_H_B  -- LD H,B: 60
  | ld_H_C  -- LD H,C: 61
  | ld_H_D  -- LD H,D: 62
  | ld_H_E  -- LD H,E: 63
  | ld_H_H  -- LD H,H: 64
  | ld_H_L  -- LD H,L: 65
  | ld_H_atHL  -- LD H,(HL): 66
  | ld_H_A  -- LD H,A: 67
  | ld_L_B  -- LD L,B: 68
  | ld_L_C  -- LD L,C: 69
  | ld_L_D  -- LD L,D: 6A
  | ld_L_E  -- LD L,E: 6B
  | ld_L_H  -- LD L,H: 6C
  | ld_L_L  -- LD L,L: 6D
  | ld_L_atHL  -- LD L,(HL): 6E
  | ld_L_A  -- LD L,A: 6F
  | ld_atHL_B  -- LD (HL),B: 70
  | ld_atHL_C  -- LD (HL),C: 71
  | ld_atHL_D  -- LD (HL),D: 72
  | ld_atHL_E  -- LD (HL),E: 73
  | ld_atHL_H  -- LD (HL),H: 74
  | ld_atHL_L  -- LD (HL),L: 75
  | halt  -- HALT: 76
  | ld_atHL_A  -- LD (HL),A: 77
  | ld_A_B  -- LD A,B: 78
  | ld_A_C  -- LD A,C: 79
  | ld_A_D  -- LD A,D: 7A
  | ld_A_E  -- LD A,E: 7B
  | ld_A_H  -- LD A,H: 7C
  | ld_A_L  -- LD A,L: 7D
  | ld_A_atHL  -- LD A,(HL): 7E
  | ld_A_A  -- LD A,A: 7F
  | add_A_B  -- ADD A,B: 80
  | add_A_C  -- ADD A,C: 81
  | add_A_D  -- ADD A,D: 82
  | add_A_E  -- ADD A,E: 83
  | add_A_H  -- ADD A,H: 84
  | add_A_L  -- ADD A,L: 85
  | add_A_atHL  -- ADD A,(HL): 86
  | add_A_A  -- ADD A,A: 87
  | adc_A_B  -- ADC A,B: 88
  | adc_A_C  -- ADC A,C: 89
  | adc_A_D  -- ADC A,D: 8A
  | adc_A_E  -- ADC A,E: 8B
  | adc_A_H  -- ADC A,H: 8C
  | adc_A_L  -- ADC A,L: 8D
  | adc_A_atHL  -- ADC A,(HL): 8E
  | adc_A_A  -- ADC A,A: 8F
  | sub_B  -- SUB B: 90
  | sub_C  -- SUB C: 91
  | sub_D  -- SUB D: 92
  | sub_E  -- SUB E: 93
  | sub_H  -- SUB H: 94
  | sub_L  -- SUB L: 95
  | sub_atHL  -- SUB (HL): 96
  | sub_A  -- SUB A: 97
  | sbc_A_B  -- SBC A,B: 98
  | sbc_A_C  -- SBC A,C: 99
  | sbc_A_D  -- SBC A,D: 9A
  | sbc_A_E  -- SBC A,E: 9B
  | sbc_A_H  -- SBC A,H: 9C
  | sbc_A_L  -- SBC A,L: 9D
  | sbc_A_atHL  -- SBC A,(HL): 9E
  | sbc_A_A  -- SBC A,A: 9F
  | and_B  -- AND B: A0
  | and_C  -- AND C: A1
  | and_D  -- AND D: A2
  | and_E  -- AND E: A3
  | and_H  -- AND H: A4
  | and_L  -- AND L: A5
  | and_atHL  -- AND (HL): A6
  | and_A  -- AND A: A7
  | xor_B  -- XOR B: A8
  | xor_C  -- XOR C: A9
  | xor_D  -- XOR D: AA
  | xor_E  -- XOR E: AB
  | xor_H  -- XOR H: AC
  | xor_L  -- XOR L: AD
  | xor_atHL  -- XOR (HL): AE
  | xor_A  -- XOR A: AF
  | or_B  -- OR B: B0
  | or_C  -- OR C: B1
  | or_D  -- OR D: B2
  | or_E  -- OR E: B3
  | or_H  -- OR H: B4
  | or_L  -- OR L: B5
  | or_atHL  -- OR (HL): B6
  | or_A  -- OR A: B7
  | cp_B  -- CP B: B8
  | cp_C  -- CP C: B9
  | cp_D  -- CP D: BA
  | cp_E  -- CP E: BB
  | cp_H  -- CP H: BC
  | cp_L  -- CP L: BD
  | cp_atHL  -- CP (HL): BE
  | cp_A  -- CP A: BF
  | ret_NZ  -- RET NZ: C0
  | pop_BC  -- POP BC: C1
  | push_BC  -- PUSH BC: C5
  | rst_00  -- RST 0x00: C7
  | ret_Z  -- RET Z: C8
  | ret  -- RET: C9
  | rst_08  -- RST 0x08: CF
  | ret_NC  -- RET NC: D0
  | pop_DE  -- POP DE: D1
  | undefined_D3  -- (undefined): D3
  | push_DE  -- PUSH DE: D5
  | rst_10  -- RST 0x10: D7
  | ret_C  -- RET C: D8
  | reti  -- RETI: D9
  | undefined_DB  -- (undefined): DB
  | undefined_DD  -- (undefined): DD
  | rst_18  -- RST 0x18: DF
  | pop_HL  -- POP HL: E1
  | ldh_atC_A  -- LDH (C),A: E2
  | undefined_E3  -- (undefined): E3
  | undefined_E4  -- (undefined): E4
  | push_HL  -- PUSH HL: E5
  | rst_20  -- RST 0x20: E7
  | jp_HL  -- JP HL: E9
  | undefined_EB  -- (undefined): EB
  | undefined_EC  -- (undefined): EC
  | undefined_ED  -- (undefined): ED
  | rst_28  -- RST 0x28: EF
  | pop_AF  -- POP AF: F1
  | ldh_A_atC  -- LDH A,(C): F2
  | di  -- DI: F3
  | undefined_F4  -- (undefined): F4
  | push_AF  -- PUSH AF: F5
  | rst_30  -- RST 0x30: F7
  | ld_SP_HL  -- LD SP,HL: F9
  | ei  -- EI: FB
  | undefined_FC  -- (undefined): FC
  | undefined_FD  -- (undefined): FD
  | rst_38  -- RST 0x38: FF
  | rlc_B  -- RLC B: CB 00
  | rlc_C  -- RLC C: CB 01
  | rlc_D  -- RLC D: CB 02
  | rlc_E  -- RLC E: CB 03
  | rlc_H  -- RLC H: CB 04
  | rlc_L  -- RLC L: CB 05
  | rlc_atHL  -- RLC (HL): CB 06
  | rlc_A  -- RLC A: CB 07
  | rrc_B  -- RRC B: CB 08
  | rrc_C  -- RRC C: CB 09
  | rrc_D  -- RRC D: CB 0A
  | rrc_E  -- RRC E: CB 0B
  | rrc_H  -- RRC H: CB 0C
  | rrc_L  -- RRC L: CB 0D
  | rrc_atHL  -- RRC (HL): CB 0E
  | rrc_A  -- RRC A: CB 0F
  | rl_B  -- RL B: CB 10
  | rl_C  -- RL C: CB 11
  | rl_D  -- RL D: CB 12
  | rl_E  -- RL E: CB 13
  | rl_H  -- RL H: CB 14
  | rl_L  -- RL L: CB 15
  | rl_atHL  -- RL (HL): CB 16
  | rl_A  -- RL A: CB 17
  | rr_B  -- RR B: CB 18
  | rr_C  -- RR C: CB 19
  | rr_D  -- RR D: CB 1A
  | rr_E  -- RR E: CB 1B
  | rr_H  -- RR H: CB 1C
  | rr_L  -- RR L: CB 1D
  | rr_atHL  -- RR (HL): CB 1E
  | rr_A  -- RR A: CB 1F
  | sla_B  -- SLA B: CB 20
  | sla_C  -- SLA C: CB 21
  | sla_D  -- SLA D: CB 22
  | sla_E  -- SLA E: CB 23
  | sla_H  -- SLA H: CB 24
  | sla_L  -- SLA L: CB 25
  | sla_atHL  -- SLA (HL): CB 26
  | sla_A  -- SLA A: CB 27
  | sra_B  -- SRA B: CB 28
  | sra_C  -- SRA C: CB 29
  | sra_D  -- SRA D: CB 2A
  | sra_E  -- SRA E: CB 2B
  | sra_H  -- SRA H: CB 2C
  | sra_L  -- SRA L: CB 2D
  | sra_atHL  -- SRA (HL): CB 2E
  | sra_A  -- SRA A: CB 2F
  | swap_B  -- SWAP B: CB 30
  | swap_C  -- SWAP C: CB 31
  | swap_D  -- SWAP D: CB 32
  | swap_E  -- SWAP E: CB 33
  | swap_H  -- SWAP H: CB 34
  | swap_L  -- SWAP L: CB 35
  | swap_atHL  -- SWAP (HL): CB 36
  | swap_A  -- SWAP A: CB 37
  | srl_B  -- SRL B: CB 38
  | srl_C  -- SRL C: CB 39
  | srl_D  -- SRL D: CB 3A
  | srl_E  -- SRL E: CB 3B
  | srl_H  -- SRL H: CB 3C
  | srl_L  -- SRL L: CB 3D
  | srl_atHL  -- SRL (HL): CB 3E
  | srl_A  -- SRL A: CB 3F
  | bit_0_B  -- BIT 0,B: CB 40
  | bit_0_C  -- BIT 0,C: CB 41
  | bit_0_D  -- BIT 0,D: CB 42
  | bit_0_E  -- BIT 0,E: CB 43
  | bit_0_H  -- BIT 0,H: CB 44
  | bit_0_L  -- BIT 0,L: CB 45
  | bit_0_atHL  -- BIT 0,(HL): CB 46
  | bit_0_A  -- BIT 0,A: CB 47
  | bit_1_B  -- BIT 1,B: CB 48
  | bit_1_C  -- BIT 1,C: CB 49
  | bit_1_D  -- BIT 1,D: CB 4A
  | bit_1_E  -- BIT 1,E: CB 4B
  | bit_1_H  -- BIT 1,H: CB 4C
  | bit_1_L  -- BIT 1,L: CB 4D
  | bit_1_atHL  -- BIT 1,(HL): CB 4E
  | bit_1_A  -- BIT 1,A: CB 4F
  | bit_2_B  -- BIT 2,B: CB 50
  | bit_2_C  -- BIT 2,C: CB 51
  | bit_2_D  -- BIT 2,D: CB 52
  | bit_2_E  -- BIT 2,E: CB 53
  | bit_2_H  -- BIT 2,H: CB 54
  | bit_2_L  -- BIT 2,L: CB 55
  | bit_2_atHL  -- BIT 2,(HL): CB 56
  | bit_2_A  -- BIT 2,A: CB 57
  | bit_3_B  -- BIT 3,B: CB 58
  | bit_3_C  -- BIT 3,C: CB 59
  | bit_3_D  -- BIT 3,D: CB 5A
  | bit_3_E  -- BIT 3,E: CB 5B
  | bit_3_H  -- BIT 3,H: CB 5C
  | bit_3_L  -- BIT 3,L: CB 5D
  | bit_3_atHL  -- BIT 3,(HL): CB 5E
  | bit_3_A  -- BIT 3,A: CB 5F
  | bit_4_B  -- BIT 4,B: CB 60
  | bit_4_C  -- BIT 4,C: CB 61
  | bit_4_D  -- BIT 4,D: CB 62
  | bit_4_E  -- BIT 4,E: CB 63
  | bit_4_H  -- BIT 4,H: CB 64
  | bit_4_L  -- BIT 4,L: CB 65
  | bit_4_atHL  -- BIT 4,(HL): CB 66
  | bit_4_A  -- BIT 4,A: CB 67
  | bit_5_B  -- BIT 5,B: CB 68
  | bit_5_C  -- BIT 5,C: CB 69
  | bit_5_D  -- BIT 5,D: CB 6A
  | bit_5_E  -- BIT 5,E: CB 6B
  | bit_5_H  -- BIT 5,H: CB 6C
  | bit_5_L  -- BIT 5,L: CB 6D
  | bit_5_atHL  -- BIT 5,(HL): CB 6E
  | bit_5_A  -- BIT 5,A: CB 6F
  | bit_6_B  -- BIT 6,B: CB 70
  | bit_6_C  -- BIT 6,C: CB 71
  | bit_6_D  -- BIT 6,D: CB 72
  | bit_6_E  -- BIT 6,E: CB 73
  | bit_6_H  -- BIT 6,H: CB 74
  | bit_6_L  -- BIT 6,L: CB 75
  | bit_6_atHL  -- BIT 6,(HL): CB 76
  | bit_6_A  -- BIT 6,A: CB 77
  | bit_7_B  -- BIT 7,B: CB 78
  | bit_7_C  -- BIT 7,C: CB 79
  | bit_7_D  -- BIT 7,D: CB 7A
  | bit_7_E  -- BIT 7,E: CB 7B
  | bit_7_H  -- BIT 7,H: CB 7C
  | bit_7_L  -- BIT 7,L: CB 7D
  | bit_7_atHL  -- BIT 7,(HL): CB 7E
  | bit_7_A  -- BIT 7,A: CB 7F
  | res_0_B  -- RES 0,B: CB 80
  | res_0_C  -- RES 0,C: CB 81
  | res_0_D  -- RES 0,D: CB 82
  | res_0_E  -- RES 0,E: CB 83
  | res_0_H  -- RES 0,H: CB 84
  | res_0_L  -- RES 0,L: CB 85
  | res_0_atHL  -- RES 0,(HL): CB 86
  | res_0_A  -- RES 0,A: CB 87
  | res_1_B  -- RES 1,B: CB 88
  | res_1_C  -- RES 1,C: CB 89
  | res_1_D  -- RES 1,D: CB 8A
  | res_1_E  -- RES 1,E: CB 8B
  | res_1_H  -- RES 1,H: CB 8C
  | res_1_L  -- RES 1,L: CB 8D
  | res_1_atHL  -- RES 1,(HL): CB 8E
  | res_1_A  -- RES 1,A: CB 8F
  | res_2_B  -- RES 2,B: CB 90
  | res_2_C  -- RES 2,C: CB 91
  | res_2_D  -- RES 2,D: CB 92
  | res_2_E  -- RES 2,E: CB 93
  | res_2_H  -- RES 2,H: CB 94
  | res_2_L  -- RES 2,L: CB 95
  | res_2_atHL  -- RES 2,(HL): CB 96
  | res_2_A  -- RES 2,A: CB 97
  | res_3_B  -- RES 3,B: CB 98
  | res_3_C  -- RES 3,C: CB 99
  | res_3_D  -- RES 3,D: CB 9A
  | res_3_E  -- RES 3,E: CB 9B
  | res_3_H  -- RES 3,H: CB 9C
  | res_3_L  -- RES 3,L: CB 9D
  | res_3_atHL  -- RES 3,(HL): CB 9E
  | res_3_A  -- RES 3,A: CB 9F
  | res_4_B  -- RES 4,B: CB A0
  | res_4_C  -- RES 4,C: CB A1
  | res_4_D  -- RES 4,D: CB A2
  | res_4_E  -- RES 4,E: CB A3
  | res_4_H  -- RES 4,H: CB A4
  | res_4_L  -- RES 4,L: CB A5
  | res_4_atHL  -- RES 4,(HL): CB A6
  | res_4_A  -- RES 4,A: CB A7
  | res_5_B  -- RES 5,B: CB A8
  | res_5_C  -- RES 5,C: CB A9
  | res_5_D  -- RES 5,D: CB AA
  | res_5_E  -- RES 5,E: CB AB
  | res_5_H  -- RES 5,H: CB AC
  | res_5_L  -- RES 5,L: CB AD
  | res_5_atHL  -- RES 5,(HL): CB AE
  | res_5_A  -- RES 5,A: CB AF
  | res_6_B  -- RES 6,B: CB B0
  | res_6_C  -- RES 6,C: CB B1
  | res_6_D  -- RES 6,D: CB B2
  | res_6_E  -- RES 6,E: CB B3
  | res_6_H  -- RES 6,H: CB B4
  | res_6_L  -- RES 6,L: CB B5
  | res_6_atHL  -- RES 6,(HL): CB B6
  | res_6_A  -- RES 6,A: CB B7
  | res_7_B  -- RES 7,B: CB B8
  | res_7_C  -- RES 7,C: CB B9
  | res_7_D  -- RES 7,D: CB BA
  | res_7_E  -- RES 7,E: CB BB
  | res_7_H  -- RES 7,H: CB BC
  | res_7_L  -- RES 7,L: CB BD
  | res_7_atHL  -- RES 7,(HL): CB BE
  | res_7_A  -- RES 7,A: CB BF
  | set_0_B  -- SET 0,B: CB C0
  | set_0_C  -- SET 0,C: CB C1
  | set_0_D  -- SET 0,D: CB C2
  | set_0_E  -- SET 0,E: CB C3
  | set_0_H  -- SET 0,H: CB C4
  | set_0_L  -- SET 0,L: CB C5
  | set_0_atHL  -- SET 0,(HL): CB C6
  | set_0_A  -- SET 0,A: CB C7
  | set_1_B  -- SET 1,B: CB C8
  | set_1_C  -- SET 1,C: CB C9
  | set_1_D  -- SET 1,D: CB CA
  | set_1_E  -- SET 1,E: CB CB
  | set_1_H  -- SET 1,H: CB CC
  | set_1_L  -- SET 1,L: CB CD
  | set_1_atHL  -- SET 1,(HL): CB CE
  | set_1_A  -- SET 1,A: CB CF
  | set_2_B  -- SET 2,B: CB D0
  | set_2_C  -- SET 2,C: CB D1
  | set_2_D  -- SET 2,D: CB D2
  | set_2_E  -- SET 2,E: CB D3
  | set_2_H  -- SET 2,H: CB D4
  | set_2_L  -- SET 2,L: CB D5
  | set_2_atHL  -- SET 2,(HL): CB D6
  | set_2_A  -- SET 2,A: CB D7
  | set_3_B  -- SET 3,B: CB D8
  | set_3_C  -- SET 3,C: CB D9
  | set_3_D  -- SET 3,D: CB DA
  | set_3_E  -- SET 3,E: CB DB
  | set_3_H  -- SET 3,H: CB DC
  | set_3_L  -- SET 3,L: CB DD
  | set_3_atHL  -- SET 3,(HL): CB DE
  | set_3_A  -- SET 3,A: CB DF
  | set_4_B  -- SET 4,B: CB E0
  | set_4_C  -- SET 4,C: CB E1
  | set_4_D  -- SET 4,D: CB E2
  | set_4_E  -- SET 4,E: CB E3
  | set_4_H  -- SET 4,H: CB E4
  | set_4_L  -- SET 4,L: CB E5
  | set_4_atHL  -- SET 4,(HL): CB E6
  | set_4_A  -- SET 4,A: CB E7
  | set_5_B  -- SET 5,B: CB E8
  | set_5_C  -- SET 5,C: CB E9
  | set_5_D  -- SET 5,D: CB EA
  | set_5_E  -- SET 5,E: CB EB
  | set_5_H  -- SET 5,H: CB EC
  | set_5_L  -- SET 5,L: CB ED
  | set_5_atHL  -- SET 5,(HL): CB EE
  | set_5_A  -- SET 5,A: CB EF
  | set_6_B  -- SET 6,B: CB F0
  | set_6_C  -- SET 6,C: CB F1
  | set_6_D  -- SET 6,D: CB F2
  | set_6_E  -- SET 6,E: CB F3
  | set_6_H  -- SET 6,H: CB F4
  | set_6_L  -- SET 6,L: CB F5
  | set_6_atHL  -- SET 6,(HL): CB F6
  | set_6_A  -- SET 6,A: CB F7
  | set_7_B  -- SET 7,B: CB F8
  | set_7_C  -- SET 7,C: CB F9
  | set_7_D  -- SET 7,D: CB FA
  | set_7_E  -- SET 7,E: CB FB
  | set_7_H  -- SET 7,H: CB FC
  | set_7_L  -- SET 7,L: CB FD
  | set_7_atHL  -- SET 7,(HL): CB FE
  | set_7_A  -- SET 7,A: CB FF
deriving DecidableEq, Repr

end Sys2Proof
end

