-- ==== Sys2Proof/WellFormed.lean ====
section
/-! DEFINITION. Which terms of Instr are whole instructions. Every operand is a bit vector of its field's width, so only one
check is left: `PREFIX CB` (R265) is the row that selects the extended space and no instruction by itself, since the words
`CB op2` are those of the extended instruction `op2` (log 11). -/

namespace Sys2Proof

def Instr.wellFormed : Instr → Bool
  | .prefix_CB _ => false
  | _ => true

end Sys2Proof
end

