-- ==== Sys2Proof/Decode.lean ====
section
/-! DEFINITION. From bytes to instructions and back. The decoder follows the opcode maps R111 and R112, entry by entry, and the
length table R108. The encoder follows the patterns of R103 with the field codes of R102. The two are written apart, so
that decoding an encoding checks one against the other. -/

namespace Sys2Proof

/-- R111, row 0x. -/
def standardRow0 : List (Byte → Byte → Instr) := [
  fun _ _ => .nop, fun l h => .ld_BC_nn (word h l), fun _ _ => .ld_atBC_A, fun _ _ => .inc_BC,
  fun _ _ => .inc_B, fun _ _ => .dec_B, fun n _ => .ld_B_n n, fun _ _ => .rlca,
  fun l h => .ld_atNn_SP (word h l), fun _ _ => .add_HL_BC, fun _ _ => .ld_A_atBC, fun _ _ => .dec_BC,
  fun _ _ => .inc_C, fun _ _ => .dec_C, fun n _ => .ld_C_n n, fun _ _ => .rrca]
/-- R111, row 1x. -/
def standardRow1 : List (Byte → Byte → Instr) := [
  fun n _ => .stop n, fun l h => .ld_DE_nn (word h l), fun _ _ => .ld_atDE_A, fun _ _ => .inc_DE,
  fun _ _ => .inc_D, fun _ _ => .dec_D, fun n _ => .ld_D_n n, fun _ _ => .rla,
  fun n _ => .jr_e n, fun _ _ => .add_HL_DE, fun _ _ => .ld_A_atDE, fun _ _ => .dec_DE,
  fun _ _ => .inc_E, fun _ _ => .dec_E, fun n _ => .ld_E_n n, fun _ _ => .rra]
/-- R111, row 2x. -/
def standardRow2 : List (Byte → Byte → Instr) := [
  fun n _ => .jr_NZ_e n, fun l h => .ld_HL_nn (word h l), fun _ _ => .ld_atHLinc_A, fun _ _ => .inc_HL,
  fun _ _ => .inc_H, fun _ _ => .dec_H, fun n _ => .ld_H_n n, fun _ _ => .daa,
  fun n _ => .jr_Z_e n, fun _ _ => .add_HL_HL, fun _ _ => .ld_A_atHLinc, fun _ _ => .dec_HL,
  fun _ _ => .inc_L, fun _ _ => .dec_L, fun n _ => .ld_L_n n, fun _ _ => .cpl]
/-- R111, row 3x. -/
def standardRow3 : List (Byte → Byte → Instr) := [
  fun n _ => .jr_NC_e n, fun l h => .ld_SP_nn (word h l), fun _ _ => .ld_atHLdec_A, fun _ _ => .inc_SP,
  fun _ _ => .inc_atHL, fun _ _ => .dec_atHL, fun n _ => .ld_atHL_n n, fun _ _ => .scf,
  fun n _ => .jr_C_e n, fun _ _ => .add_HL_SP, fun _ _ => .ld_A_atHLdec, fun _ _ => .dec_SP,
  fun _ _ => .inc_A, fun _ _ => .dec_A, fun n _ => .ld_A_n n, fun _ _ => .ccf]
/-- R111, row 4x. -/
def standardRow4 : List (Byte → Byte → Instr) := [
  fun _ _ => .ld_B_B, fun _ _ => .ld_B_C, fun _ _ => .ld_B_D, fun _ _ => .ld_B_E,
  fun _ _ => .ld_B_H, fun _ _ => .ld_B_L, fun _ _ => .ld_B_atHL, fun _ _ => .ld_B_A,
  fun _ _ => .ld_C_B, fun _ _ => .ld_C_C, fun _ _ => .ld_C_D, fun _ _ => .ld_C_E,
  fun _ _ => .ld_C_H, fun _ _ => .ld_C_L, fun _ _ => .ld_C_atHL, fun _ _ => .ld_C_A]
/-- R111, row 5x. -/
def standardRow5 : List (Byte → Byte → Instr) := [
  fun _ _ => .ld_D_B, fun _ _ => .ld_D_C, fun _ _ => .ld_D_D, fun _ _ => .ld_D_E,
  fun _ _ => .ld_D_H, fun _ _ => .ld_D_L, fun _ _ => .ld_D_atHL, fun _ _ => .ld_D_A,
  fun _ _ => .ld_E_B, fun _ _ => .ld_E_C, fun _ _ => .ld_E_D, fun _ _ => .ld_E_E,
  fun _ _ => .ld_E_H, fun _ _ => .ld_E_L, fun _ _ => .ld_E_atHL, fun _ _ => .ld_E_A]
/-- R111, row 6x. -/
def standardRow6 : List (Byte → Byte → Instr) := [
  fun _ _ => .ld_H_B, fun _ _ => .ld_H_C, fun _ _ => .ld_H_D, fun _ _ => .ld_H_E,
  fun _ _ => .ld_H_H, fun _ _ => .ld_H_L, fun _ _ => .ld_H_atHL, fun _ _ => .ld_H_A,
  fun _ _ => .ld_L_B, fun _ _ => .ld_L_C, fun _ _ => .ld_L_D, fun _ _ => .ld_L_E,
  fun _ _ => .ld_L_H, fun _ _ => .ld_L_L, fun _ _ => .ld_L_atHL, fun _ _ => .ld_L_A]
/-- R111, row 7x. -/
def standardRow7 : List (Byte → Byte → Instr) := [
  fun _ _ => .ld_atHL_B, fun _ _ => .ld_atHL_C, fun _ _ => .ld_atHL_D, fun _ _ => .ld_atHL_E,
  fun _ _ => .ld_atHL_H, fun _ _ => .ld_atHL_L, fun _ _ => .halt, fun _ _ => .ld_atHL_A,
  fun _ _ => .ld_A_B, fun _ _ => .ld_A_C, fun _ _ => .ld_A_D, fun _ _ => .ld_A_E,
  fun _ _ => .ld_A_H, fun _ _ => .ld_A_L, fun _ _ => .ld_A_atHL, fun _ _ => .ld_A_A]
/-- R111, row 8x. -/
def standardRow8 : List (Byte → Byte → Instr) := [
  fun _ _ => .add_A_B, fun _ _ => .add_A_C, fun _ _ => .add_A_D, fun _ _ => .add_A_E,
  fun _ _ => .add_A_H, fun _ _ => .add_A_L, fun _ _ => .add_A_atHL, fun _ _ => .add_A_A,
  fun _ _ => .adc_A_B, fun _ _ => .adc_A_C, fun _ _ => .adc_A_D, fun _ _ => .adc_A_E,
  fun _ _ => .adc_A_H, fun _ _ => .adc_A_L, fun _ _ => .adc_A_atHL, fun _ _ => .adc_A_A]
/-- R111, row 9x. -/
def standardRow9 : List (Byte → Byte → Instr) := [
  fun _ _ => .sub_B, fun _ _ => .sub_C, fun _ _ => .sub_D, fun _ _ => .sub_E,
  fun _ _ => .sub_H, fun _ _ => .sub_L, fun _ _ => .sub_atHL, fun _ _ => .sub_A,
  fun _ _ => .sbc_A_B, fun _ _ => .sbc_A_C, fun _ _ => .sbc_A_D, fun _ _ => .sbc_A_E,
  fun _ _ => .sbc_A_H, fun _ _ => .sbc_A_L, fun _ _ => .sbc_A_atHL, fun _ _ => .sbc_A_A]
/-- R111, row Ax. -/
def standardRowA : List (Byte → Byte → Instr) := [
  fun _ _ => .and_B, fun _ _ => .and_C, fun _ _ => .and_D, fun _ _ => .and_E,
  fun _ _ => .and_H, fun _ _ => .and_L, fun _ _ => .and_atHL, fun _ _ => .and_A,
  fun _ _ => .xor_B, fun _ _ => .xor_C, fun _ _ => .xor_D, fun _ _ => .xor_E,
  fun _ _ => .xor_H, fun _ _ => .xor_L, fun _ _ => .xor_atHL, fun _ _ => .xor_A]
/-- R111, row Bx. -/
def standardRowB : List (Byte → Byte → Instr) := [
  fun _ _ => .or_B, fun _ _ => .or_C, fun _ _ => .or_D, fun _ _ => .or_E,
  fun _ _ => .or_H, fun _ _ => .or_L, fun _ _ => .or_atHL, fun _ _ => .or_A,
  fun _ _ => .cp_B, fun _ _ => .cp_C, fun _ _ => .cp_D, fun _ _ => .cp_E,
  fun _ _ => .cp_H, fun _ _ => .cp_L, fun _ _ => .cp_atHL, fun _ _ => .cp_A]
/-- R111, row Cx. -/
def standardRowC : List (Byte → Byte → Instr) := [
  fun _ _ => .ret_NZ, fun _ _ => .pop_BC, fun l h => .jp_NZ_nn (word h l), fun l h => .jp_nn (word h l),
  fun l h => .call_NZ_nn (word h l), fun _ _ => .push_BC, fun n _ => .add_A_n n, fun _ _ => .rst_00,
  fun _ _ => .ret_Z, fun _ _ => .ret, fun l h => .jp_Z_nn (word h l), fun n _ => .prefix_CB n,
  fun l h => .call_Z_nn (word h l), fun l h => .call_nn (word h l), fun n _ => .adc_A_n n, fun _ _ => .rst_08]
/-- R111, row Dx. -/
def standardRowD : List (Byte → Byte → Instr) := [
  fun _ _ => .ret_NC, fun _ _ => .pop_DE, fun l h => .jp_NC_nn (word h l), fun _ _ => .undefined_D3,
  fun l h => .call_NC_nn (word h l), fun _ _ => .push_DE, fun n _ => .sub_n n, fun _ _ => .rst_10,
  fun _ _ => .ret_C, fun _ _ => .reti, fun l h => .jp_C_nn (word h l), fun _ _ => .undefined_DB,
  fun l h => .call_C_nn (word h l), fun _ _ => .undefined_DD, fun n _ => .sbc_A_n n, fun _ _ => .rst_18]
/-- R111, row Ex. -/
def standardRowE : List (Byte → Byte → Instr) := [
  fun n _ => .ldh_atN_A n, fun _ _ => .pop_HL, fun _ _ => .ldh_atC_A, fun _ _ => .undefined_E3,
  fun _ _ => .undefined_E4, fun _ _ => .push_HL, fun n _ => .and_n n, fun _ _ => .rst_20,
  fun n _ => .add_SP_e n, fun _ _ => .jp_HL, fun l h => .ld_atNn_A (word h l), fun _ _ => .undefined_EB,
  fun _ _ => .undefined_EC, fun _ _ => .undefined_ED, fun n _ => .xor_n n, fun _ _ => .rst_28]
/-- R111, row Fx. -/
def standardRowF : List (Byte → Byte → Instr) := [
  fun n _ => .ldh_A_atN n, fun _ _ => .pop_AF, fun _ _ => .ldh_A_atC, fun _ _ => .di,
  fun _ _ => .undefined_F4, fun _ _ => .push_AF, fun n _ => .or_n n, fun _ _ => .rst_30,
  fun n _ => .ld_HL_SPe n, fun _ _ => .ld_SP_HL, fun l h => .ld_A_atNn (word h l), fun _ _ => .ei,
  fun _ _ => .undefined_FC, fun _ _ => .undefined_FD, fun n _ => .cp_n n, fun _ _ => .rst_38]

/-- R112, row 0x. -/
def extendedRow0 : List Instr := [
  .rlc_B, .rlc_C, .rlc_D, .rlc_E, .rlc_H, .rlc_L, .rlc_atHL, .rlc_A,
  .rrc_B, .rrc_C, .rrc_D, .rrc_E, .rrc_H, .rrc_L, .rrc_atHL, .rrc_A]
/-- R112, row 1x. -/
def extendedRow1 : List Instr := [
  .rl_B, .rl_C, .rl_D, .rl_E, .rl_H, .rl_L, .rl_atHL, .rl_A,
  .rr_B, .rr_C, .rr_D, .rr_E, .rr_H, .rr_L, .rr_atHL, .rr_A]
/-- R112, row 2x. -/
def extendedRow2 : List Instr := [
  .sla_B, .sla_C, .sla_D, .sla_E, .sla_H, .sla_L, .sla_atHL, .sla_A,
  .sra_B, .sra_C, .sra_D, .sra_E, .sra_H, .sra_L, .sra_atHL, .sra_A]
/-- R112, row 3x. -/
def extendedRow3 : List Instr := [
  .swap_B, .swap_C, .swap_D, .swap_E, .swap_H, .swap_L, .swap_atHL, .swap_A,
  .srl_B, .srl_C, .srl_D, .srl_E, .srl_H, .srl_L, .srl_atHL, .srl_A]
/-- R112, row 4x. -/
def extendedRow4 : List Instr := [
  .bit_0_B, .bit_0_C, .bit_0_D, .bit_0_E, .bit_0_H, .bit_0_L, .bit_0_atHL, .bit_0_A,
  .bit_1_B, .bit_1_C, .bit_1_D, .bit_1_E, .bit_1_H, .bit_1_L, .bit_1_atHL, .bit_1_A]
/-- R112, row 5x. -/
def extendedRow5 : List Instr := [
  .bit_2_B, .bit_2_C, .bit_2_D, .bit_2_E, .bit_2_H, .bit_2_L, .bit_2_atHL, .bit_2_A,
  .bit_3_B, .bit_3_C, .bit_3_D, .bit_3_E, .bit_3_H, .bit_3_L, .bit_3_atHL, .bit_3_A]
/-- R112, row 6x. -/
def extendedRow6 : List Instr := [
  .bit_4_B, .bit_4_C, .bit_4_D, .bit_4_E, .bit_4_H, .bit_4_L, .bit_4_atHL, .bit_4_A,
  .bit_5_B, .bit_5_C, .bit_5_D, .bit_5_E, .bit_5_H, .bit_5_L, .bit_5_atHL, .bit_5_A]
/-- R112, row 7x. -/
def extendedRow7 : List Instr := [
  .bit_6_B, .bit_6_C, .bit_6_D, .bit_6_E, .bit_6_H, .bit_6_L, .bit_6_atHL, .bit_6_A,
  .bit_7_B, .bit_7_C, .bit_7_D, .bit_7_E, .bit_7_H, .bit_7_L, .bit_7_atHL, .bit_7_A]
/-- R112, row 8x. -/
def extendedRow8 : List Instr := [
  .res_0_B, .res_0_C, .res_0_D, .res_0_E, .res_0_H, .res_0_L, .res_0_atHL, .res_0_A,
  .res_1_B, .res_1_C, .res_1_D, .res_1_E, .res_1_H, .res_1_L, .res_1_atHL, .res_1_A]
/-- R112, row 9x. -/
def extendedRow9 : List Instr := [
  .res_2_B, .res_2_C, .res_2_D, .res_2_E, .res_2_H, .res_2_L, .res_2_atHL, .res_2_A,
  .res_3_B, .res_3_C, .res_3_D, .res_3_E, .res_3_H, .res_3_L, .res_3_atHL, .res_3_A]
/-- R112, row Ax. -/
def extendedRowA : List Instr := [
  .res_4_B, .res_4_C, .res_4_D, .res_4_E, .res_4_H, .res_4_L, .res_4_atHL, .res_4_A,
  .res_5_B, .res_5_C, .res_5_D, .res_5_E, .res_5_H, .res_5_L, .res_5_atHL, .res_5_A]
/-- R112, row Bx. -/
def extendedRowB : List Instr := [
  .res_6_B, .res_6_C, .res_6_D, .res_6_E, .res_6_H, .res_6_L, .res_6_atHL, .res_6_A,
  .res_7_B, .res_7_C, .res_7_D, .res_7_E, .res_7_H, .res_7_L, .res_7_atHL, .res_7_A]
/-- R112, row Cx. -/
def extendedRowC : List Instr := [
  .set_0_B, .set_0_C, .set_0_D, .set_0_E, .set_0_H, .set_0_L, .set_0_atHL, .set_0_A,
  .set_1_B, .set_1_C, .set_1_D, .set_1_E, .set_1_H, .set_1_L, .set_1_atHL, .set_1_A]
/-- R112, row Dx. -/
def extendedRowD : List Instr := [
  .set_2_B, .set_2_C, .set_2_D, .set_2_E, .set_2_H, .set_2_L, .set_2_atHL, .set_2_A,
  .set_3_B, .set_3_C, .set_3_D, .set_3_E, .set_3_H, .set_3_L, .set_3_atHL, .set_3_A]
/-- R112, row Ex. -/
def extendedRowE : List Instr := [
  .set_4_B, .set_4_C, .set_4_D, .set_4_E, .set_4_H, .set_4_L, .set_4_atHL, .set_4_A,
  .set_5_B, .set_5_C, .set_5_D, .set_5_E, .set_5_H, .set_5_L, .set_5_atHL, .set_5_A]
/-- R112, row Fx. -/
def extendedRowF : List Instr := [
  .set_6_B, .set_6_C, .set_6_D, .set_6_E, .set_6_H, .set_6_L, .set_6_atHL, .set_6_A,
  .set_7_B, .set_7_C, .set_7_D, .set_7_E, .set_7_H, .set_7_L, .set_7_atHL, .set_7_A]

def standardRows : List (List (Byte → Byte → Instr)) := [
  standardRow0, standardRow1, standardRow2, standardRow3, standardRow4, standardRow5, standardRow6, standardRow7,
  standardRow8, standardRow9, standardRowA, standardRowB, standardRowC, standardRowD, standardRowE, standardRowF]

def extendedRows : List (List Instr) := [
  extendedRow0, extendedRow1, extendedRow2, extendedRow3, extendedRow4, extendedRow5, extendedRow6, extendedRow7,
  extendedRow8, extendedRow9, extendedRowA, extendedRowB, extendedRowC, extendedRowD, extendedRowE, extendedRowF]

/-- The standard space: the opcode and the two bytes after it, of which the instruction's length says how many it takes.
The fallback is never reached: sixteen rows of sixteen entries. -/
def decodeStandard (op b1 b2 : Byte) : Instr :=
  (((standardRows.getD (op.toNat / 16) []).getD (op.toNat % 16) fun _ _ => .nop)) b1 b2

/-- The extended space (R112). -/
def decodeExtended (op2 : Byte) : Instr :=
  (extendedRows.getD (op2.toNat / 16) []).getD (op2.toNat % 16) .nop

/-- The extension prefix (R100). -/
def prefixByte : Byte := 0xCB

/-- Lengths in bytes by opcode, the table of R108. -/
def lengthRows : List (List Nat) := [
  [1, 3, 1, 1, 1, 1, 2, 1, 3, 1, 1, 1, 1, 1, 2, 1],
  [2, 3, 1, 1, 1, 1, 2, 1, 2, 1, 1, 1, 1, 1, 2, 1],
  [2, 3, 1, 1, 1, 1, 2, 1, 2, 1, 1, 1, 1, 1, 2, 1],
  [2, 3, 1, 1, 1, 1, 2, 1, 2, 1, 1, 1, 1, 1, 2, 1],
  [], [], [], [], [], [], [], [],
  [1, 1, 3, 3, 3, 1, 2, 1, 1, 1, 3, 2, 3, 3, 2, 1],
  [1, 1, 3, 1, 3, 1, 2, 1, 1, 1, 3, 1, 3, 1, 2, 1],
  [2, 1, 1, 1, 1, 1, 2, 1, 2, 1, 3, 1, 1, 1, 2, 1],
  [2, 1, 1, 1, 1, 1, 2, 1, 2, 1, 3, 1, 1, 1, 2, 1]]

/-- R108; rows 4x to Bx of its table hold 1 throughout. -/
def instrLength (op : Byte) : Nat :=
  (lengthRows.getD (op.toNat / 16) []).getD (op.toNat % 16) 1

/-- Why a byte list holds no instruction: every opcode of both spaces has a row, so only a list that ends too early. -/
inductive DecodeError where
  | truncated
deriving DecidableEq, Repr

/-- One instruction from the front of a byte list, with the bytes left over (R100, R108). -/
def decode : List Byte → Except DecodeError (Instr × List Byte)
  | [] => .error .truncated
  | op :: rest =>
    if op = prefixByte then
      match rest with
      | op2 :: rest => .ok (decodeExtended op2, rest)
      | [] => .error .truncated
    else
      match instrLength op, rest with
      | 1, rest => .ok (decodeStandard op 0 0, rest)
      | 2, b1 :: rest => .ok (decodeStandard op b1 0, rest)
      | 3, b1 :: b2 :: rest => .ok (decodeStandard op b1 b2, rest)
      | _, _ => .error .truncated

/-- The three bytes, in fetch order, of a word numbered as spec/opcode_table.json numbers it (log 10): a row of the extended
space is `0xCB ++ second byte`, prefix in the high byte (R103); otherwise the first byte is the low one. -/
def tableBytes (nbits w : Nat) : List Byte :=
  let b0 := BitVec.ofNat 8 w
  let b1 := BitVec.ofNat 8 (w / 256)
  let b2 := BitVec.ofNat 8 (w / 65536)
  if 8 < nbits ∧ nbits ≤ 16 ∧ b1 = prefixByte then [b1, b0, 0] else [b0, b1, b2]

/-- The instruction the decoder reads from a table word. A word of eight bits is an opcode byte of the standard space, and the
standard space's entry for the prefix byte is the row `PREFIX CB` (log 10). -/
def decodeTableWord (nbits w : Nat) : Option Instr :=
  if nbits ≤ 8 ∧ BitVec.ofNat 8 w = prefixByte then some (decodeStandard prefixByte 0 0)
  else
    match decode (tableBytes nbits w) with
    | .ok (i, _) => some i
    | .error _ => none

/-- The form of each row: which of R103's formats it has, with the fields of R102 resolved as the table's rows resolve them.
Shared by the encoder and the statements; the machine's dispatch does not use it. -/
def Instr.form : Instr → Form
  | .nop => .nop
  | .ld_BC_nn nn => .ldPair .bc nn
  | .ld_atBC_A => .stA .bc
  | .inc_BC => .incPair .bc
  | .inc_B => .inc (.reg .b)
  | .dec_B => .dec (.reg .b)
  | .ld_B_n n => .ldImm (.reg .b) n
  | .rlca => .rlca
  | .ld_atNn_SP nn => .ldNnSP nn
  | .add_HL_BC => .addHL .bc
  | .ld_A_atBC => .ldA .bc
  | .dec_BC => .decPair .bc
  | .inc_C => .inc (.reg .c)
  | .dec_C => .dec (.reg .c)
  | .ld_C_n n => .ldImm (.reg .c) n
  | .rrca => .rrca
  | .stop n => .stop n
  | .ld_DE_nn nn => .ldPair .de nn
  | .ld_atDE_A => .stA .de
  | .inc_DE => .incPair .de
  | .inc_D => .inc (.reg .d)
  | .dec_D => .dec (.reg .d)
  | .ld_D_n n => .ldImm (.reg .d) n
  | .rla => .rla
  | .jr_e e => .jr e
  | .add_HL_DE => .addHL .de
  | .ld_A_atDE => .ldA .de
  | .dec_DE => .decPair .de
  | .inc_E => .inc (.reg .e)
  | .dec_E => .dec (.reg .e)
  | .ld_E_n n => .ldImm (.reg .e) n
  | .rra => .rra
  | .jr_NZ_e e => .jrCC .nz e
  | .ld_HL_nn nn => .ldPair .hl nn
  | .ld_atHLinc_A => .stA .hlInc
  | .inc_HL => .incPair .hl
  | .inc_H => .inc (.reg .h)
  | .dec_H => .dec (.reg .h)
  | .ld_H_n n => .ldImm (.reg .h) n
  | .daa => .daa
  | .jr_Z_e e => .jrCC .z e
  | .add_HL_HL => .addHL .hl
  | .ld_A_atHLinc => .ldA .hlInc
  | .dec_HL => .decPair .hl
  | .inc_L => .inc (.reg .l)
  | .dec_L => .dec (.reg .l)
  | .ld_L_n n => .ldImm (.reg .l) n
  | .cpl => .cpl
  | .jr_NC_e e => .jrCC .nc e
  | .ld_SP_nn nn => .ldPair .sp nn
  | .ld_atHLdec_A => .stA .hlDec
  | .inc_SP => .incPair .sp
  | .inc_atHL => .inc (.atHL)
  | .dec_atHL => .dec (.atHL)
  | .ld_atHL_n n => .ldImm (.atHL) n
  | .scf => .scf
  | .jr_C_e e => .jrCC .c e
  | .add_HL_SP => .addHL .sp
  | .ld_A_atHLdec => .ldA .hlDec
  | .dec_SP => .decPair .sp
  | .inc_A => .inc (.reg .a)
  | .dec_A => .dec (.reg .a)
  | .ld_A_n n => .ldImm (.reg .a) n
  | .ccf => .ccf
  | .ld_B_B => .ld (.reg .b) (.reg .b)
  | .ld_B_C => .ld (.reg .b) (.reg .c)
  | .ld_B_D => .ld (.reg .b) (.reg .d)
  | .ld_B_E => .ld (.reg .b) (.reg .e)
  | .ld_B_H => .ld (.reg .b) (.reg .h)
  | .ld_B_L => .ld (.reg .b) (.reg .l)
  | .ld_B_atHL => .ld (.reg .b) (.atHL)
  | .ld_B_A => .ld (.reg .b) (.reg .a)
  | .ld_C_B => .ld (.reg .c) (.reg .b)
  | .ld_C_C => .ld (.reg .c) (.reg .c)
  | .ld_C_D => .ld (.reg .c) (.reg .d)
  | .ld_C_E => .ld (.reg .c) (.reg .e)
  | .ld_C_H => .ld (.reg .c) (.reg .h)
  | .ld_C_L => .ld (.reg .c) (.reg .l)
  | .ld_C_atHL => .ld (.reg .c) (.atHL)
  | .ld_C_A => .ld (.reg .c) (.reg .a)
  | .ld_D_B => .ld (.reg .d) (.reg .b)
  | .ld_D_C => .ld (.reg .d) (.reg .c)
  | .ld_D_D => .ld (.reg .d) (.reg .d)
  | .ld_D_E => .ld (.reg .d) (.reg .e)
  | .ld_D_H => .ld (.reg .d) (.reg .h)
  | .ld_D_L => .ld (.reg .d) (.reg .l)
  | .ld_D_atHL => .ld (.reg .d) (.atHL)
  | .ld_D_A => .ld (.reg .d) (.reg .a)
  | .ld_E_B => .ld (.reg .e) (.reg .b)
  | .ld_E_C => .ld (.reg .e) (.reg .c)
  | .ld_E_D => .ld (.reg .e) (.reg .d)
  | .ld_E_E => .ld (.reg .e) (.reg .e)
  | .ld_E_H => .ld (.reg .e) (.reg .h)
  | .ld_E_L => .ld (.reg .e) (.reg .l)
  | .ld_E_atHL => .ld (.reg .e) (.atHL)
  | .ld_E_A => .ld (.reg .e) (.reg .a)
  | .ld_H_B => .ld (.reg .h) (.reg .b)
  | .ld_H_C => .ld (.reg .h) (.reg .c)
  | .ld_H_D => .ld (.reg .h) (.reg .d)
  | .ld_H_E => .ld (.reg .h) (.reg .e)
  | .ld_H_H => .ld (.reg .h) (.reg .h)
  | .ld_H_L => .ld (.reg .h) (.reg .l)
  | .ld_H_atHL => .ld (.reg .h) (.atHL)
  | .ld_H_A => .ld (.reg .h) (.reg .a)
  | .ld_L_B => .ld (.reg .l) (.reg .b)
  | .ld_L_C => .ld (.reg .l) (.reg .c)
  | .ld_L_D => .ld (.reg .l) (.reg .d)
  | .ld_L_E => .ld (.reg .l) (.reg .e)
  | .ld_L_H => .ld (.reg .l) (.reg .h)
  | .ld_L_L => .ld (.reg .l) (.reg .l)
  | .ld_L_atHL => .ld (.reg .l) (.atHL)
  | .ld_L_A => .ld (.reg .l) (.reg .a)
  | .ld_atHL_B => .ld (.atHL) (.reg .b)
  | .ld_atHL_C => .ld (.atHL) (.reg .c)
  | .ld_atHL_D => .ld (.atHL) (.reg .d)
  | .ld_atHL_E => .ld (.atHL) (.reg .e)
  | .ld_atHL_H => .ld (.atHL) (.reg .h)
  | .ld_atHL_L => .ld (.atHL) (.reg .l)
  | .halt => .halt
  | .ld_atHL_A => .ld (.atHL) (.reg .a)
  | .ld_A_B => .ld (.reg .a) (.reg .b)
  | .ld_A_C => .ld (.reg .a) (.reg .c)
  | .ld_A_D => .ld (.reg .a) (.reg .d)
  | .ld_A_E => .ld (.reg .a) (.reg .e)
  | .ld_A_H => .ld (.reg .a) (.reg .h)
  | .ld_A_L => .ld (.reg .a) (.reg .l)
  | .ld_A_atHL => .ld (.reg .a) (.atHL)
  | .ld_A_A => .ld (.reg .a) (.reg .a)
  | .add_A_B => .alu .add (.reg .b)
  | .add_A_C => .alu .add (.reg .c)
  | .add_A_D => .alu .add (.reg .d)
  | .add_A_E => .alu .add (.reg .e)
  | .add_A_H => .alu .add (.reg .h)
  | .add_A_L => .alu .add (.reg .l)
  | .add_A_atHL => .alu .add (.atHL)
  | .add_A_A => .alu .add (.reg .a)
  | .adc_A_B => .alu .adc (.reg .b)
  | .adc_A_C => .alu .adc (.reg .c)
  | .adc_A_D => .alu .adc (.reg .d)
  | .adc_A_E => .alu .adc (.reg .e)
  | .adc_A_H => .alu .adc (.reg .h)
  | .adc_A_L => .alu .adc (.reg .l)
  | .adc_A_atHL => .alu .adc (.atHL)
  | .adc_A_A => .alu .adc (.reg .a)
  | .sub_B => .alu .sub (.reg .b)
  | .sub_C => .alu .sub (.reg .c)
  | .sub_D => .alu .sub (.reg .d)
  | .sub_E => .alu .sub (.reg .e)
  | .sub_H => .alu .sub (.reg .h)
  | .sub_L => .alu .sub (.reg .l)
  | .sub_atHL => .alu .sub (.atHL)
  | .sub_A => .alu .sub (.reg .a)
  | .sbc_A_B => .alu .sbc (.reg .b)
  | .sbc_A_C => .alu .sbc (.reg .c)
  | .sbc_A_D => .alu .sbc (.reg .d)
  | .sbc_A_E => .alu .sbc (.reg .e)
  | .sbc_A_H => .alu .sbc (.reg .h)
  | .sbc_A_L => .alu .sbc (.reg .l)
  | .sbc_A_atHL => .alu .sbc (.atHL)
  | .sbc_A_A => .alu .sbc (.reg .a)
  | .and_B => .alu .and (.reg .b)
  | .and_C => .alu .and (.reg .c)
  | .and_D => .alu .and (.reg .d)
  | .and_E => .alu .and (.reg .e)
  | .and_H => .alu .and (.reg .h)
  | .and_L => .alu .and (.reg .l)
  | .and_atHL => .alu .and (.atHL)
  | .and_A => .alu .and (.reg .a)
  | .xor_B => .alu .xor (.reg .b)
  | .xor_C => .alu .xor (.reg .c)
  | .xor_D => .alu .xor (.reg .d)
  | .xor_E => .alu .xor (.reg .e)
  | .xor_H => .alu .xor (.reg .h)
  | .xor_L => .alu .xor (.reg .l)
  | .xor_atHL => .alu .xor (.atHL)
  | .xor_A => .alu .xor (.reg .a)
  | .or_B => .alu .or (.reg .b)
  | .or_C => .alu .or (.reg .c)
  | .or_D => .alu .or (.reg .d)
  | .or_E => .alu .or (.reg .e)
  | .or_H => .alu .or (.reg .h)
  | .or_L => .alu .or (.reg .l)
  | .or_atHL => .alu .or (.atHL)
  | .or_A => .alu .or (.reg .a)
  | .cp_B => .alu .cp (.reg .b)
  | .cp_C => .alu .cp (.reg .c)
  | .cp_D => .alu .cp (.reg .d)
  | .cp_E => .alu .cp (.reg .e)
  | .cp_H => .alu .cp (.reg .h)
  | .cp_L => .alu .cp (.reg .l)
  | .cp_atHL => .alu .cp (.atHL)
  | .cp_A => .alu .cp (.reg .a)
  | .ret_NZ => .retCC .nz
  | .pop_BC => .pop .bc
  | .jp_NZ_nn nn => .jpCC .nz nn
  | .jp_nn nn => .jp nn
  | .call_NZ_nn nn => .callCC .nz nn
  | .push_BC => .push .bc
  | .add_A_n n => .aluImm .add n
  | .rst_00 => .rst 0
  | .ret_Z => .retCC .z
  | .ret => .ret
  | .jp_Z_nn nn => .jpCC .z nn
  | .prefix_CB op2 => .prefixCB op2
  | .call_Z_nn nn => .callCC .z nn
  | .call_nn nn => .call nn
  | .adc_A_n n => .aluImm .adc n
  | .rst_08 => .rst 1
  | .ret_NC => .retCC .nc
  | .pop_DE => .pop .de
  | .jp_NC_nn nn => .jpCC .nc nn
  | .undefined_D3 => .undefined 0xD3
  | .call_NC_nn nn => .callCC .nc nn
  | .push_DE => .push .de
  | .sub_n n => .aluImm .sub n
  | .rst_10 => .rst 2
  | .ret_C => .retCC .c
  | .reti => .reti
  | .jp_C_nn nn => .jpCC .c nn
  | .undefined_DB => .undefined 0xDB
  | .call_C_nn nn => .callCC .c nn
  | .undefined_DD => .undefined 0xDD
  | .sbc_A_n n => .aluImm .sbc n
  | .rst_18 => .rst 3
  | .ldh_atN_A n => .stA (.io n)
  | .pop_HL => .pop .hl
  | .ldh_atC_A => .stA .ioC
  | .undefined_E3 => .undefined 0xE3
  | .undefined_E4 => .undefined 0xE4
  | .push_HL => .push .hl
  | .and_n n => .aluImm .and n
  | .rst_20 => .rst 4
  | .add_SP_e e => .addSP e
  | .jp_HL => .jpHL
  | .ld_atNn_A nn => .stA (.abs nn)
  | .undefined_EB => .undefined 0xEB
  | .undefined_EC => .undefined 0xEC
  | .undefined_ED => .undefined 0xED
  | .xor_n n => .aluImm .xor n
  | .rst_28 => .rst 5
  | .ldh_A_atN n => .ldA (.io n)
  | .pop_AF => .pop .af
  | .ldh_A_atC => .ldA .ioC
  | .di => .di
  | .undefined_F4 => .undefined 0xF4
  | .push_AF => .push .af
  | .or_n n => .aluImm .or n
  | .rst_30 => .rst 6
  | .ld_HL_SPe e => .ldHLSPe e
  | .ld_SP_HL => .ldSPHL
  | .ld_A_atNn nn => .ldA (.abs nn)
  | .ei => .ei
  | .undefined_FC => .undefined 0xFC
  | .undefined_FD => .undefined 0xFD
  | .cp_n n => .aluImm .cp n
  | .rst_38 => .rst 7
  | .rlc_B => .rot .rlc (.reg .b)
  | .rlc_C => .rot .rlc (.reg .c)
  | .rlc_D => .rot .rlc (.reg .d)
  | .rlc_E => .rot .rlc (.reg .e)
  | .rlc_H => .rot .rlc (.reg .h)
  | .rlc_L => .rot .rlc (.reg .l)
  | .rlc_atHL => .rot .rlc (.atHL)
  | .rlc_A => .rot .rlc (.reg .a)
  | .rrc_B => .rot .rrc (.reg .b)
  | .rrc_C => .rot .rrc (.reg .c)
  | .rrc_D => .rot .rrc (.reg .d)
  | .rrc_E => .rot .rrc (.reg .e)
  | .rrc_H => .rot .rrc (.reg .h)
  | .rrc_L => .rot .rrc (.reg .l)
  | .rrc_atHL => .rot .rrc (.atHL)
  | .rrc_A => .rot .rrc (.reg .a)
  | .rl_B => .rot .rl (.reg .b)
  | .rl_C => .rot .rl (.reg .c)
  | .rl_D => .rot .rl (.reg .d)
  | .rl_E => .rot .rl (.reg .e)
  | .rl_H => .rot .rl (.reg .h)
  | .rl_L => .rot .rl (.reg .l)
  | .rl_atHL => .rot .rl (.atHL)
  | .rl_A => .rot .rl (.reg .a)
  | .rr_B => .rot .rr (.reg .b)
  | .rr_C => .rot .rr (.reg .c)
  | .rr_D => .rot .rr (.reg .d)
  | .rr_E => .rot .rr (.reg .e)
  | .rr_H => .rot .rr (.reg .h)
  | .rr_L => .rot .rr (.reg .l)
  | .rr_atHL => .rot .rr (.atHL)
  | .rr_A => .rot .rr (.reg .a)
  | .sla_B => .rot .sla (.reg .b)
  | .sla_C => .rot .sla (.reg .c)
  | .sla_D => .rot .sla (.reg .d)
  | .sla_E => .rot .sla (.reg .e)
  | .sla_H => .rot .sla (.reg .h)
  | .sla_L => .rot .sla (.reg .l)
  | .sla_atHL => .rot .sla (.atHL)
  | .sla_A => .rot .sla (.reg .a)
  | .sra_B => .rot .sra (.reg .b)
  | .sra_C => .rot .sra (.reg .c)
  | .sra_D => .rot .sra (.reg .d)
  | .sra_E => .rot .sra (.reg .e)
  | .sra_H => .rot .sra (.reg .h)
  | .sra_L => .rot .sra (.reg .l)
  | .sra_atHL => .rot .sra (.atHL)
  | .sra_A => .rot .sra (.reg .a)
  | .swap_B => .rot .swap (.reg .b)
  | .swap_C => .rot .swap (.reg .c)
  | .swap_D => .rot .swap (.reg .d)
  | .swap_E => .rot .swap (.reg .e)
  | .swap_H => .rot .swap (.reg .h)
  | .swap_L => .rot .swap (.reg .l)
  | .swap_atHL => .rot .swap (.atHL)
  | .swap_A => .rot .swap (.reg .a)
  | .srl_B => .rot .srl (.reg .b)
  | .srl_C => .rot .srl (.reg .c)
  | .srl_D => .rot .srl (.reg .d)
  | .srl_E => .rot .srl (.reg .e)
  | .srl_H => .rot .srl (.reg .h)
  | .srl_L => .rot .srl (.reg .l)
  | .srl_atHL => .rot .srl (.atHL)
  | .srl_A => .rot .srl (.reg .a)
  | .bit_0_B => .bit 0 (.reg .b)
  | .bit_0_C => .bit 0 (.reg .c)
  | .bit_0_D => .bit 0 (.reg .d)
  | .bit_0_E => .bit 0 (.reg .e)
  | .bit_0_H => .bit 0 (.reg .h)
  | .bit_0_L => .bit 0 (.reg .l)
  | .bit_0_atHL => .bit 0 (.atHL)
  | .bit_0_A => .bit 0 (.reg .a)
  | .bit_1_B => .bit 1 (.reg .b)
  | .bit_1_C => .bit 1 (.reg .c)
  | .bit_1_D => .bit 1 (.reg .d)
  | .bit_1_E => .bit 1 (.reg .e)
  | .bit_1_H => .bit 1 (.reg .h)
  | .bit_1_L => .bit 1 (.reg .l)
  | .bit_1_atHL => .bit 1 (.atHL)
  | .bit_1_A => .bit 1 (.reg .a)
  | .bit_2_B => .bit 2 (.reg .b)
  | .bit_2_C => .bit 2 (.reg .c)
  | .bit_2_D => .bit 2 (.reg .d)
  | .bit_2_E => .bit 2 (.reg .e)
  | .bit_2_H => .bit 2 (.reg .h)
  | .bit_2_L => .bit 2 (.reg .l)
  | .bit_2_atHL => .bit 2 (.atHL)
  | .bit_2_A => .bit 2 (.reg .a)
  | .bit_3_B => .bit 3 (.reg .b)
  | .bit_3_C => .bit 3 (.reg .c)
  | .bit_3_D => .bit 3 (.reg .d)
  | .bit_3_E => .bit 3 (.reg .e)
  | .bit_3_H => .bit 3 (.reg .h)
  | .bit_3_L => .bit 3 (.reg .l)
  | .bit_3_atHL => .bit 3 (.atHL)
  | .bit_3_A => .bit 3 (.reg .a)
  | .bit_4_B => .bit 4 (.reg .b)
  | .bit_4_C => .bit 4 (.reg .c)
  | .bit_4_D => .bit 4 (.reg .d)
  | .bit_4_E => .bit 4 (.reg .e)
  | .bit_4_H => .bit 4 (.reg .h)
  | .bit_4_L => .bit 4 (.reg .l)
  | .bit_4_atHL => .bit 4 (.atHL)
  | .bit_4_A => .bit 4 (.reg .a)
  | .bit_5_B => .bit 5 (.reg .b)
  | .bit_5_C => .bit 5 (.reg .c)
  | .bit_5_D => .bit 5 (.reg .d)
  | .bit_5_E => .bit 5 (.reg .e)
  | .bit_5_H => .bit 5 (.reg .h)
  | .bit_5_L => .bit 5 (.reg .l)
  | .bit_5_atHL => .bit 5 (.atHL)
  | .bit_5_A => .bit 5 (.reg .a)
  | .bit_6_B => .bit 6 (.reg .b)
  | .bit_6_C => .bit 6 (.reg .c)
  | .bit_6_D => .bit 6 (.reg .d)
  | .bit_6_E => .bit 6 (.reg .e)
  | .bit_6_H => .bit 6 (.reg .h)
  | .bit_6_L => .bit 6 (.reg .l)
  | .bit_6_atHL => .bit 6 (.atHL)
  | .bit_6_A => .bit 6 (.reg .a)
  | .bit_7_B => .bit 7 (.reg .b)
  | .bit_7_C => .bit 7 (.reg .c)
  | .bit_7_D => .bit 7 (.reg .d)
  | .bit_7_E => .bit 7 (.reg .e)
  | .bit_7_H => .bit 7 (.reg .h)
  | .bit_7_L => .bit 7 (.reg .l)
  | .bit_7_atHL => .bit 7 (.atHL)
  | .bit_7_A => .bit 7 (.reg .a)
  | .res_0_B => .res 0 (.reg .b)
  | .res_0_C => .res 0 (.reg .c)
  | .res_0_D => .res 0 (.reg .d)
  | .res_0_E => .res 0 (.reg .e)
  | .res_0_H => .res 0 (.reg .h)
  | .res_0_L => .res 0 (.reg .l)
  | .res_0_atHL => .res 0 (.atHL)
  | .res_0_A => .res 0 (.reg .a)
  | .res_1_B => .res 1 (.reg .b)
  | .res_1_C => .res 1 (.reg .c)
  | .res_1_D => .res 1 (.reg .d)
  | .res_1_E => .res 1 (.reg .e)
  | .res_1_H => .res 1 (.reg .h)
  | .res_1_L => .res 1 (.reg .l)
  | .res_1_atHL => .res 1 (.atHL)
  | .res_1_A => .res 1 (.reg .a)
  | .res_2_B => .res 2 (.reg .b)
  | .res_2_C => .res 2 (.reg .c)
  | .res_2_D => .res 2 (.reg .d)
  | .res_2_E => .res 2 (.reg .e)
  | .res_2_H => .res 2 (.reg .h)
  | .res_2_L => .res 2 (.reg .l)
  | .res_2_atHL => .res 2 (.atHL)
  | .res_2_A => .res 2 (.reg .a)
  | .res_3_B => .res 3 (.reg .b)
  | .res_3_C => .res 3 (.reg .c)
  | .res_3_D => .res 3 (.reg .d)
  | .res_3_E => .res 3 (.reg .e)
  | .res_3_H => .res 3 (.reg .h)
  | .res_3_L => .res 3 (.reg .l)
  | .res_3_atHL => .res 3 (.atHL)
  | .res_3_A => .res 3 (.reg .a)
  | .res_4_B => .res 4 (.reg .b)
  | .res_4_C => .res 4 (.reg .c)
  | .res_4_D => .res 4 (.reg .d)
  | .res_4_E => .res 4 (.reg .e)
  | .res_4_H => .res 4 (.reg .h)
  | .res_4_L => .res 4 (.reg .l)
  | .res_4_atHL => .res 4 (.atHL)
  | .res_4_A => .res 4 (.reg .a)
  | .res_5_B => .res 5 (.reg .b)
  | .res_5_C => .res 5 (.reg .c)
  | .res_5_D => .res 5 (.reg .d)
  | .res_5_E => .res 5 (.reg .e)
  | .res_5_H => .res 5 (.reg .h)
  | .res_5_L => .res 5 (.reg .l)
  | .res_5_atHL => .res 5 (.atHL)
  | .res_5_A => .res 5 (.reg .a)
  | .res_6_B => .res 6 (.reg .b)
  | .res_6_C => .res 6 (.reg .c)
  | .res_6_D => .res 6 (.reg .d)
  | .res_6_E => .res 6 (.reg .e)
  | .res_6_H => .res 6 (.reg .h)
  | .res_6_L => .res 6 (.reg .l)
  | .res_6_atHL => .res 6 (.atHL)
  | .res_6_A => .res 6 (.reg .a)
  | .res_7_B => .res 7 (.reg .b)
  | .res_7_C => .res 7 (.reg .c)
  | .res_7_D => .res 7 (.reg .d)
  | .res_7_E => .res 7 (.reg .e)
  | .res_7_H => .res 7 (.reg .h)
  | .res_7_L => .res 7 (.reg .l)
  | .res_7_atHL => .res 7 (.atHL)
  | .res_7_A => .res 7 (.reg .a)
  | .set_0_B => .set 0 (.reg .b)
  | .set_0_C => .set 0 (.reg .c)
  | .set_0_D => .set 0 (.reg .d)
  | .set_0_E => .set 0 (.reg .e)
  | .set_0_H => .set 0 (.reg .h)
  | .set_0_L => .set 0 (.reg .l)
  | .set_0_atHL => .set 0 (.atHL)
  | .set_0_A => .set 0 (.reg .a)
  | .set_1_B => .set 1 (.reg .b)
  | .set_1_C => .set 1 (.reg .c)
  | .set_1_D => .set 1 (.reg .d)
  | .set_1_E => .set 1 (.reg .e)
  | .set_1_H => .set 1 (.reg .h)
  | .set_1_L => .set 1 (.reg .l)
  | .set_1_atHL => .set 1 (.atHL)
  | .set_1_A => .set 1 (.reg .a)
  | .set_2_B => .set 2 (.reg .b)
  | .set_2_C => .set 2 (.reg .c)
  | .set_2_D => .set 2 (.reg .d)
  | .set_2_E => .set 2 (.reg .e)
  | .set_2_H => .set 2 (.reg .h)
  | .set_2_L => .set 2 (.reg .l)
  | .set_2_atHL => .set 2 (.atHL)
  | .set_2_A => .set 2 (.reg .a)
  | .set_3_B => .set 3 (.reg .b)
  | .set_3_C => .set 3 (.reg .c)
  | .set_3_D => .set 3 (.reg .d)
  | .set_3_E => .set 3 (.reg .e)
  | .set_3_H => .set 3 (.reg .h)
  | .set_3_L => .set 3 (.reg .l)
  | .set_3_atHL => .set 3 (.atHL)
  | .set_3_A => .set 3 (.reg .a)
  | .set_4_B => .set 4 (.reg .b)
  | .set_4_C => .set 4 (.reg .c)
  | .set_4_D => .set 4 (.reg .d)
  | .set_4_E => .set 4 (.reg .e)
  | .set_4_H => .set 4 (.reg .h)
  | .set_4_L => .set 4 (.reg .l)
  | .set_4_atHL => .set 4 (.atHL)
  | .set_4_A => .set 4 (.reg .a)
  | .set_5_B => .set 5 (.reg .b)
  | .set_5_C => .set 5 (.reg .c)
  | .set_5_D => .set 5 (.reg .d)
  | .set_5_E => .set 5 (.reg .e)
  | .set_5_H => .set 5 (.reg .h)
  | .set_5_L => .set 5 (.reg .l)
  | .set_5_atHL => .set 5 (.atHL)
  | .set_5_A => .set 5 (.reg .a)
  | .set_6_B => .set 6 (.reg .b)
  | .set_6_C => .set 6 (.reg .c)
  | .set_6_D => .set 6 (.reg .d)
  | .set_6_E => .set 6 (.reg .e)
  | .set_6_H => .set 6 (.reg .h)
  | .set_6_L => .set 6 (.reg .l)
  | .set_6_atHL => .set 6 (.atHL)
  | .set_6_A => .set 6 (.reg .a)
  | .set_7_B => .set 7 (.reg .b)
  | .set_7_C => .set 7 (.reg .c)
  | .set_7_D => .set 7 (.reg .d)
  | .set_7_E => .set 7 (.reg .e)
  | .set_7_H => .set 7 (.reg .h)
  | .set_7_L => .set 7 (.reg .l)
  | .set_7_atHL => .set 7 (.atHL)
  | .set_7_A => .set 7 (.reg .a)

/-- Codes of the `r` table (R102). -/
def Reg8.code : Reg8 → BitVec 3
  | .b => 0 | .c => 1 | .d => 2 | .e => 3 | .h => 4 | .l => 5 | .a => 7

def R8.code : R8 → BitVec 3
  | .reg r => r.code
  | .atHL => 6

/-- The `r` table read the other way. -/
def R8.ofCode (k : BitVec 3) : R8 :=
  [R8.reg .b, .reg .c, .reg .d, .reg .e, .reg .h, .reg .l, .atHL, .reg .a].getD k.toNat .atHL

/-- Codes of the `rr` table (R102). -/
def Pair.code : Pair → BitVec 2
  | .bc => 0 | .de => 1 | .hl => 2 | .sp => 3

/-- Codes of the `qq` table (R102). -/
def StackPair.code : StackPair → BitVec 2
  | .bc => 0 | .de => 1 | .hl => 2 | .af => 3

/-- Codes of the `cc` table (R102). -/
def Cond.code : Cond → BitVec 2
  | .nz => 0 | .z => 1 | .nc => 2 | .c => 3

/-- Codes of the `alu` table (R102). -/
def AluOp.code : AluOp → BitVec 3
  | .add => 0 | .adc => 1 | .sub => 2 | .sbc => 3 | .and => 4 | .xor => 5 | .or => 6 | .cp => 7

/-- Codes of the `rot` table (R102). -/
def RotOp.code : RotOp → BitVec 3
  | .rlc => 0 | .rrc => 1 | .rl => 2 | .rr => 3 | .sla => 4 | .sra => 5 | .swap => 6 | .srl => 7

/-- The `rot` table read the other way. -/
def RotOp.ofCode (k : BitVec 3) : RotOp :=
  [RotOp.rlc, .rrc, .rl, .rr, .sla, .sra, .swap, .srl].getD k.toNat .srl

/-- The split `x y z` of an opcode byte (R101). -/
def opcodeOf (x : BitVec 2) (y z : BitVec 3) : Byte := x ++ y ++ z

/-- The split `x p q z` of an opcode byte (R101). -/
def opcodeOfPair (x p : BitVec 2) (q : BitVec 1) (z : BitVec 3) : Byte := x ++ p ++ q ++ z

/-- A condition in the `y` field: `110cc...` holds it as it is, `001cc000` plus 4 (R102, R103). -/
def Cond.field (cc : Cond) : BitVec 3 := 0#1 ++ cc.code

/-- The bytes of a form, by the patterns of R103 and the instruction rules' encodings. -/
def encodeForm : Form → List Byte
  | .ld d s => [opcodeOf 1 d.code s.code]
  | .ldImm d n => [opcodeOf 0 d.code 6, n]
  | .stA .bc => [opcodeOf 0 0 2]
  | .ldA .bc => [opcodeOf 0 1 2]
  | .stA .de => [opcodeOf 0 2 2]
  | .ldA .de => [opcodeOf 0 3 2]
  | .stA .hlInc => [opcodeOf 0 4 2]
  | .ldA .hlInc => [opcodeOf 0 5 2]
  | .stA .hlDec => [opcodeOf 0 6 2]
  | .ldA .hlDec => [opcodeOf 0 7 2]
  | .stA (.io n) => [0b11100000, n]
  | .ldA (.io n) => [0b11110000, n]
  | .stA .ioC => [0b11100010]
  | .ldA .ioC => [0b11110010]
  | .stA (.abs nn) => [0b11101010, lo nn, hi nn]
  | .ldA (.abs nn) => [0b11111010, lo nn, hi nn]
  | .ldPair rr nn => [opcodeOfPair 0 rr.code 0 1, lo nn, hi nn]
  | .ldNnSP nn => [0b00001000, lo nn, hi nn]
  | .ldSPHL => [0b11111001]
  | .ldHLSPe e => [0b11111000, e]
  | .push qq => [opcodeOfPair 3 qq.code 0 5]
  | .pop qq => [opcodeOfPair 3 qq.code 0 1]
  | .alu op s => [opcodeOf 2 op.code s.code]
  | .aluImm op n => [opcodeOf 3 op.code 6, n]
  | .inc d => [opcodeOf 0 d.code 4]
  | .dec d => [opcodeOf 0 d.code 5]
  | .rlca => [opcodeOf 0 0 7]
  | .rrca => [opcodeOf 0 1 7]
  | .rla => [opcodeOf 0 2 7]
  | .rra => [opcodeOf 0 3 7]
  | .daa => [opcodeOf 0 4 7]
  | .cpl => [opcodeOf 0 5 7]
  | .scf => [opcodeOf 0 6 7]
  | .ccf => [opcodeOf 0 7 7]
  | .addHL rr => [opcodeOfPair 0 rr.code 1 1]
  | .incPair rr => [opcodeOfPair 0 rr.code 0 3]
  | .decPair rr => [opcodeOfPair 0 rr.code 1 3]
  | .addSP e => [0b11101000, e]
  | .rot k s => [prefixByte, opcodeOf 0 k.code s.code]
  | .bit b s => [prefixByte, opcodeOf 1 b s.code]
  | .res b s => [prefixByte, opcodeOf 2 b s.code]
  | .set b s => [prefixByte, opcodeOf 3 b s.code]
  | .jp nn => [0b11000011, lo nn, hi nn]
  | .jpCC cc nn => [opcodeOf 3 cc.field 2, lo nn, hi nn]
  | .jpHL => [0b11101001]
  | .jr e => [0b00011000, e]
  | .jrCC cc e => [opcodeOf 0 (4 + cc.field) 0, e]
  | .call nn => [0b11001101, lo nn, hi nn]
  | .callCC cc nn => [opcodeOf 3 cc.field 4, lo nn, hi nn]
  | .ret => [0b11001001]
  | .retCC cc => [opcodeOf 3 cc.field 0]
  | .reti => [0b11011001]
  | .rst t => [opcodeOf 3 t 7]
  | .nop => [0b00000000]
  | .halt => [0b01110110]
  | .stop n => [0b00010000, n]
  | .di => [0b11110011]
  | .ei => [0b11111011]
  | .prefixCB op2 => [prefixByte, op2]
  | .undefined op => [op]

/-- The bytes of an instruction in fetch order. -/
def encode (i : Instr) : List Byte := encodeForm i.form

end Sys2Proof
end

