-- ==== Sys2Proof/Machine/System.lean ====
section
/-! DEFINITION. System instructions, the prefix, the undefined opcodes (46_misc_system.md). -/

namespace Sys2Proof.Machine

/-- R260. -/
def noOperation (s : State) : Result := .next s

/-- `halted <- 1` (R261); what a halted step does is in Fetch.lean. -/
def haltCpu (s : State) : Result := .next (s.setHalted true)

/-- `STOP` by `STOP_POLICY`, its second byte ignored (R262; the snapshot under policy `fault`: log 13). -/
def stopCpu (_n : Byte) (s : State) : Result :=
  match s.params.stopPolicy with
  | .stop => .next (s.setStopped true)
  | .fault => .next (raiseFault (.undefinedOpcode .standard 0x10) s)

/-- `ime <- 0; ei_pending <- 0` (R263). -/
def disableInterrupts (s : State) : Result := .next ((s.setIme false).setEiPending false)

/-- `ei_pending <- 1` (R264). -/
def enableInterrupts (s : State) : Result := .next (s.setEiPending true)

/-- The second byte dispatched by its fields `x`, `y`, `z` (R101, R112, R265; log 11). -/
def extended (op2 : Byte) (s : State) : Result :=
  let y := op2.extractLsb' 3 3
  let o := R8.ofCode (op2.extractLsb' 0 3)
  match op2.extractLsb' 6 2 with
  | 0#2 => rotate8 (RotOp.ofCode y) o s
  | 1#2 => testBit y o s
  | 2#2 => resetBit y o s
  | 3#2 => setBit y o s

/-- `raise UndefinedOpcode(standard, op)` (R266). -/
def undefinedOpcode (op : Byte) (s : State) : Result :=
  .next (raiseFault (.undefinedOpcode .standard op) s)

/-- R260 `NOP` (0x00). -/
def execNop (s : State) : Result := noOperation s
/-- R262 `STOP` (0x10). -/
def execStop (n : Byte) (s : State) : Result := stopCpu n s
/-- R261 `HALT` (0x76). -/
def execHalt (s : State) : Result := haltCpu s
/-- R265 `PREFIX CB` (0xCB). -/
def execPrefix_CB (op2 : Byte) (s : State) : Result := extended op2 s
/-- R266 `undefined opcode` (0xD3). -/
def execUndefined_D3 (s : State) : Result := undefinedOpcode 0xD3 s
/-- R266 `undefined opcode` (0xDB). -/
def execUndefined_DB (s : State) : Result := undefinedOpcode 0xDB s
/-- R266 `undefined opcode` (0xDD). -/
def execUndefined_DD (s : State) : Result := undefinedOpcode 0xDD s
/-- R266 `undefined opcode` (0xE3). -/
def execUndefined_E3 (s : State) : Result := undefinedOpcode 0xE3 s
/-- R266 `undefined opcode` (0xE4). -/
def execUndefined_E4 (s : State) : Result := undefinedOpcode 0xE4 s
/-- R266 `undefined opcode` (0xEB). -/
def execUndefined_EB (s : State) : Result := undefinedOpcode 0xEB s
/-- R266 `undefined opcode` (0xEC). -/
def execUndefined_EC (s : State) : Result := undefinedOpcode 0xEC s
/-- R266 `undefined opcode` (0xED). -/
def execUndefined_ED (s : State) : Result := undefinedOpcode 0xED s
/-- R263 `DI` (0xF3). -/
def execDi (s : State) : Result := disableInterrupts s
/-- R266 `undefined opcode` (0xF4). -/
def execUndefined_F4 (s : State) : Result := undefinedOpcode 0xF4 s
/-- R264 `EI` (0xFB). -/
def execEi (s : State) : Result := enableInterrupts s
/-- R266 `undefined opcode` (0xFC). -/
def execUndefined_FC (s : State) : Result := undefinedOpcode 0xFC s
/-- R266 `undefined opcode` (0xFD). -/
def execUndefined_FD (s : State) : Result := undefinedOpcode 0xFD s

end Sys2Proof.Machine
end

