-- ==== Sys2Proof/Machine/Fetch.lean ====
section
/-! DEFINITION. The phases of a step (R270) and the fetch of an instruction's bytes; Step.lean puts them in order. -/

namespace Sys2Proof.Machine

/-- Phase (0): a faulted or stopped machine makes no step. -/
def State.asleep (s : State) : Bool := s.fault.isSome || s.cpu.stopped

/-- Phase (a): the service address to take, with its pending bit acknowledged; with `ime = 0` nothing is asked (R270). -/
def pendingService (s : State) : Option (Word × State) := if s.cpu.ime then ackInterrupt s else none

/-- Phase (b): the commit of a queued enable (R26, R270). -/
def commitEnable (s : State) : State :=
  if s.cpu.eiPending then (s.setIme true).setEiPending false else s

/-- Phase (c): whether the halted CPU stays halted (R261, R270). -/
def State.idles (s : State) : Bool := s.cpu.halted && s.requests == 0

/-- Phase (c): the wake without service (R261). -/
def wake (s : State) : State := s.setHalted false

/-- The bytes of one instruction, each an `Imm8()`, before its meaning runs (R100, R104, R105, R107, R265; log 9). -/
def fetch (s : State) : Flow Instr :=
  (imm8 s).bind fun op s =>
    if op = prefixByte then (imm8 s).bind fun op2 s => .done (decodeExtended op2) s
    else
      match instrLength op with
      | 2 => (imm8 s).bind fun b1 s => .done (decodeStandard op b1 0) s
      | 3 => (imm8 s).bind fun b1 s => (imm8 s).bind fun b2 s => .done (decodeStandard op b1 b2) s
      | _ => .done (decodeStandard op 0 0) s

/-- A byte of the program placed where a fetch from `pc` reads it: in the boot overlay, or in memory (log 20). -/
def placeByte (a : Word) (v : Byte) (s : State) : State :=
  if s.overlaid a then s.setParams { s.params with bootRom := some (s.bootRom.write a v) }
  else s.setMem (s.mem.write a v)

/-- The bytes of a program placed from address `a` on (log 20). -/
def placeBytes (a : Word) : List Byte → State → State
  | [], s => s
  | v :: vs, s => placeBytes (a + 1) vs (placeByte a v s)

/-- A `BOOT_ROM` where profile `boot` needs one and the parameters have none (R396, log 20). -/
def withBootRom (s : State) : State :=
  if s.params.resetProfile == .boot then s.setParams { s.params with bootRom := some s.bootRom } else s

/-- The machine as it must be for its next step to be phase (d): not faulted, stopped or halted, no interrupt to service. -/
def readyToFetch (s : State) : State :=
  let s := ((s.setFault none).setStopped false).setHalted false
  if s.cpu.ime then s.setIrq { s.irq with if_ := s.irq.if_ &&& ~~~ s.irq.ie } else s

end Sys2Proof.Machine
end

