-- ==== Sys2Proof/Machine/Step.lean ====
section
/-! DEFINITION. One step (R270), and the placing of an instruction where the next step fetches it. -/

namespace Sys2Proof.Machine

/-- `Step()` (R270), of a configuration that is not refused before the first step (U17, U22). A fault raised on the way is latched
in the next state (R290, log 1). -/
def step (s : State) : Host.Outcome State Fault Refusal :=
  if s.params.acceptable = false then .refused .configuration
  else if s.asleep then .next s
  else
    match pendingService s with
    | some (v, s) => (serviceInterrupt v s).outcome
    | none =>
      let s := commitEnable s
      if s.idles then (advance s).outcome
      else
        match fetch (wake s) with
        | .raised s => .next s
        | .done i s => exec i s

/-- `s` with the instruction of a table word placed at `pc`, so that the next step fetches and runs it (log 10, log 20). It stands
for the load of a program from outside the machine: the ROM image, or the `BOOT_ROM` while the overlay is active. `pc` must be in
plain memory or in the overlay. -/
def State.withFetchWord (s : State) (nbits w : Nat) : State :=
  placeBytes s.cpu.pc (tableBytes nbits w) (readyToFetch (withBootRom s))

end Sys2Proof.Machine
end

