-- ==== Sys2Proof/Machine/HostEvents.lean ====
section
/-! DEFINITION. What the host does between steps (R298): button events (R326) and reset (R390). No step applies one (log 17). -/

namespace Sys2Proof.Machine

/-- The eight buttons (R37). -/
inductive Button where
  | right | left | up | down | a | b | select | start
deriving DecidableEq, Repr

/-- The bit of `pressed` (R37). -/
def Button.bit : Button → Nat
  | .right => 0
  | .left => 1
  | .up => 2
  | .down => 3
  | .a => 4
  | .b => 5
  | .select => 6
  | .start => 7

def Button.mask (k : Button) : Byte := 1#8 <<< k.bit

/-- `button_down(b)` (R326): wakes a stopped machine, raises the joypad interrupt on a 0-to-1 transition. -/
def buttonDown (k : Button) (s : State) : State :=
  let s := s.setStopped false
  if s.joypad.pressed.getLsbD k.bit then s
  else raiseInterrupt .joypad (s.setJoypad { s.joypad with pressed := s.joypad.pressed ||| k.mask })

/-- `button_up(b)` (R326). -/
def buttonUp (k : Button) (s : State) : State :=
  s.setJoypad { s.joypad with pressed := s.joypad.pressed &&& ~~~ k.mask }

/-- `reset()` (R390): every piece of state at its reset value for the machine's parameters. The ROM image and the host's
framebuffer stay (R390, R393; log 18). -/
def hostReset (s : State) : State := State.resetWith s.params s.mem s.sink.fb

end Sys2Proof.Machine
end

