-- ==== Sys2Proof/Safety.lean ====
section
/-! DEFINITION. The terms the statements use: what a safe run is, the invariant of the machine, what an instruction may change, and
the results of the ALU rules written over the integers, apart from the bit-vector forms the machine computes with. -/

namespace Sys2Proof.Machine

/-- No fault is latched (R28, R290). -/
def Safe (s : State) : Prop := s.fault = none

/-- R33, R343, R353: the counter lies within the mode's budget; `ly` is a visible line outside v-blank and one of the extended
v-blank lines in it. -/
def PpuInv (s : State) : Prop :=
  1 ≤ s.ppu.modeCtr ∧ s.ppu.modeCtr ≤ budget s.params s.ppu.mode ∧
    (if s.ppu.mode = .vblank then visibleLines ≤ s.ppu.ly.toNat ∧ s.ppu.ly.toNat < s.params.totalLines
     else s.ppu.ly.toNat < visibleLines)

/-- The framebuffer holds whole visible lines, each once, in rising order (R372, log 16). -/
def fbWfFrom : Nat → List (Nat × List (BitVec 2)) → Bool
  | _, [] => true
  | lowest, (y, row) :: rest =>
    decide (lowest ≤ y ∧ y < visibleLines ∧ row.length = 160) && fbWfFrom (y + 1) rest

/-- The machine's invariant: memory in its canonical form, the PPU within its budgets and lines, the DMA offset at most 160 (R31),
the framebuffer made of visible lines, the timing parameters as the spec requires them. -/
structure Inv (s : State) : Prop where
  mem : s.mem.wf = true
  ppu : PpuInv s
  dma : s.dma.off.toNat ≤ 160
  fb : fbWfFrom 0 s.sink.fb = true
  timing : s.params.timingOk = true

/-! What an instruction may change, by form. -/

/-- The form whose effect an instruction has: its own, or for the row `PREFIX CB` that of the extended instruction its second byte
names (R265). -/
def effectForm (i : Instr) : Form :=
  match i.form with
  | .prefixCB op2 => (decodeExtended op2).form
  | f => f

/-- Both bytes of a pair (R21); `sp` has none. -/
def pairBytes : Pair → List Reg8
  | .bc => [.b, .c]
  | .de => [.d, .e]
  | .hl => [.h, .l]
  | .sp => []

/-- The registers a popped pair writes (R157); the low byte of `AF` is the flags. -/
def stackPairBytes : StackPair → List Reg8
  | .bc => [.b, .c]
  | .de => [.d, .e]
  | .hl => [.h, .l]
  | .af => [.a]

/-- The general registers a form writes: its destination, and `HL` where the operand moves it (R130). -/
def destRegs : Form → List Reg8
  | .ld (.reg r) _ => [r]
  | .ldImm (.reg r) _ => [r]
  | .ldA .hlInc => [.a, .h, .l]
  | .ldA .hlDec => [.a, .h, .l]
  | .ldA _ => [.a]
  | .stA .hlInc => [.h, .l]
  | .stA .hlDec => [.h, .l]
  | .ldPair rr _ => pairBytes rr
  | .ldHLSPe _ => [.h, .l]
  | .pop qq => stackPairBytes qq
  | .alu .cp _ => []
  | .alu _ _ => [.a]
  | .aluImm .cp _ => []
  | .aluImm _ _ => [.a]
  | .inc (.reg r) => [r]
  | .dec (.reg r) => [r]
  | .daa => [.a]
  | .cpl => [.a]
  | .addHL _ => [.h, .l]
  | .incPair rr => pairBytes rr
  | .decPair rr => pairBytes rr
  | .rlca => [.a]
  | .rrca => [.a]
  | .rla => [.a]
  | .rra => [.a]
  | .rot _ (.reg r) => [r]
  | .res _ (.reg r) => [r]
  | .set _ (.reg r) => [r]
  | _ => []

/-- The forms that write `sp` (R22). -/
def writesSp : Form → Bool
  | .ldPair .sp _ => true
  | .ldSPHL => true
  | .push _ => true
  | .pop _ => true
  | .incPair .sp => true
  | .decPair .sp => true
  | .addSP _ => true
  | .call _ => true
  | .callCC _ _ => true
  | .ret => true
  | .retCC _ => true
  | .reti => true
  | .rst _ => true
  | _ => false

/-- The flags a form writes, forced or computed: the flag summary of R160. -/
def writesFlags : Form → Flags
  | .alu _ _ => ⟨true, true, true, true⟩
  | .aluImm _ _ => ⟨true, true, true, true⟩
  | .inc _ => ⟨true, true, true, false⟩
  | .dec _ => ⟨true, true, true, false⟩
  | .daa => ⟨true, false, true, true⟩
  | .cpl => ⟨false, true, true, false⟩
  | .scf => ⟨false, true, true, true⟩
  | .ccf => ⟨false, true, true, true⟩
  | .addHL _ => ⟨false, true, true, true⟩
  | .addSP _ => ⟨true, true, true, true⟩
  | .ldHLSPe _ => ⟨true, true, true, true⟩
  | .rlca => ⟨true, true, true, true⟩
  | .rrca => ⟨true, true, true, true⟩
  | .rla => ⟨true, true, true, true⟩
  | .rra => ⟨true, true, true, true⟩
  | .rot _ _ => ⟨true, true, true, true⟩
  | .bit _ _ => ⟨true, true, true, false⟩
  | .pop .af => ⟨true, true, true, true⟩
  | _ => ⟨false, false, false, false⟩

/-- The addresses a form stores to in a state, in order; `sp` is decremented before the writes of a push (R150). -/
def storesTo (f : Form) (s : State) : List Word :=
  match f with
  | .ld .atHL _ => [s.pair .hl]
  | .ldImm .atHL _ => [s.pair .hl]
  | .inc .atHL => [s.pair .hl]
  | .dec .atHL => [s.pair .hl]
  | .rot _ .atHL => [s.pair .hl]
  | .res _ .atHL => [s.pair .hl]
  | .set _ .atHL => [s.pair .hl]
  | .stA m => [accAddress m s]
  | .ldNnSP nn => [nn, nn + 1]
  | .push _ => [s.cpu.sp - 2, s.cpu.sp - 1]
  | .call _ => [s.cpu.sp - 2, s.cpu.sp - 1]
  | .callCC cc _ => if s.cpu.holds cc then [s.cpu.sp - 2, s.cpu.sp - 1] else []
  | .rst _ => [s.cpu.sp - 2, s.cpu.sp - 1]
  | _ => []

/-- The data accesses of a form, without its own bytes: R405 less the fetch. -/
def dataAccesses (f : Form) (s : State) : Nat :=
  match f with
  | .ld (.reg _) (.reg _) => 0
  | .ld _ _ => 1
  | .ldImm .atHL _ => 1
  | .ldA _ => 1
  | .stA _ => 1
  | .ldNnSP _ => 2
  | .push _ => 2
  | .pop _ => 2
  | .alu _ .atHL => 1
  | .inc .atHL => 2
  | .dec .atHL => 2
  | .rot _ .atHL => 2
  | .bit _ .atHL => 1
  | .res _ .atHL => 2
  | .set _ .atHL => 2
  | .call _ => 2
  | .callCC cc _ => if s.cpu.holds cc then 2 else 0
  | .ret => 2
  | .retCC cc => if s.cpu.holds cc then 2 else 0
  | .reti => 2
  | .rst _ => 2
  | _ => 0

/-! Results over the integers: `A` and the four flags after an operation on `A` and a byte (R160). -/

/-- `Add8` into `A`. -/
def addTo (s : State) (v : Byte) (cin : Bool) : State :=
  let a := (s.reg .a).toNat
  let r := BitVec.ofNat 8 (a + v.toNat + cin.toNat)
  (s.setReg .a r).setFlags
    { z := decide (r = 0), n := false
      h := decide (0xF < a % 16 + v.toNat % 16 + cin.toNat), c := decide (0xFF < a + v.toNat + cin.toNat) }

/-- The flags of `Sub8`. -/
def subFlags (a v : Byte) (cin : Bool) : Flags :=
  { z := decide (((a.toNat : Int) - v.toNat - cin.toNat) % 256 = 0), n := true
    h := decide (a.toNat % 16 < v.toNat % 16 + cin.toNat), c := decide (a.toNat < v.toNat + cin.toNat) }

/-- `Sub8` from `A`. -/
def subFrom (s : State) (v : Byte) (cin : Bool) : State :=
  (s.setReg .a (BitVec.ofInt 8 (((s.reg .a).toNat : Int) - v.toNat - cin.toNat))).setFlags (subFlags (s.reg .a) v cin)

/-- A logical operation's result in `A`, with the half-carry it forces. -/
def logicTo (s : State) (r : Byte) (half : Bool) : State :=
  (s.setReg .a r).setFlags { z := decide (r = 0), n := false, h := half, c := false }

/-- The result of a rotate or shift, by doubling and halving (R210). -/
def rotValue (k : RotOp) (v : Byte) (carry : Bool) : Byte :=
  let n := v.toNat
  BitVec.ofNat 8 <| match k with
    | .rlc => n * 2 % 256 + n / 128
    | .rrc => n / 2 + n % 2 * 128
    | .rl => n * 2 % 256 + carry.toNat
    | .rr => n / 2 + carry.toNat * 128
    | .sla => n * 2 % 256
    | .sra => n / 2 + n / 128 * 128
    | .swap => n % 16 * 16 + n / 16
    | .srl => n / 2

/-- The bit shifted out (R210): bit 7 going left, bit 0 going right, none for `SWAP`. -/
def rotOut (k : RotOp) (v : Byte) : Bool :=
  match k with
  | .rlc => decide (128 ≤ v.toNat)
  | .rl => decide (128 ≤ v.toNat)
  | .sla => decide (128 ≤ v.toNat)
  | .rrc => decide (v.toNat % 2 = 1)
  | .rr => decide (v.toNat % 2 = 1)
  | .sra => decide (v.toNat % 2 = 1)
  | .srl => decide (v.toNat % 2 = 1)
  | .swap => false

/-- The flags of the extended rotates and shifts. -/
def rotResultFlags (k : RotOp) (v : Byte) (carry : Bool) : Flags :=
  { z := decide (rotValue k v carry = 0), n := false, h := false, c := rotOut k v }

end Sys2Proof.Machine
end

