-- ==== Sys2Proof/Certificates/Slice0/Obligations.lean ====
section
/-! DEFINITION. The statements for the provers. An instruction is named by its form, `i.form`, so that one clause speaks of every
row of the table of one shape; its clause gives its bytes too. `s` is the state in which an instruction's meaning
starts: its bytes are consumed and `pc` is past them (R251). `s.dmaSafe` says that no transfer from an unsupported page is running,
`s.supported a` that an access to `a` raises no fault. -/

open Sys2Proof Sys2Proof.Machine

/-! Encoding. -/

/-- R100, R103, R108: no bit of an encoding is dropped. That the row `PREFIX CB` is no well-formed instruction is log 11. -/
def Obligations.DecodeInvertsEncode : Prop :=
  ∀ (i : Instr) (rest : List Byte), i.wellFormed = true → decode (encode i ++ rest) = .ok (i, rest)

/-- R100, R108: what decodes is well-formed and encodes to the very bytes it was decoded from. That nothing decodes to the row
`PREFIX CB`, no well-formed instruction, is log 11. -/
def Obligations.EncodeInvertsDecode : Prop :=
  ∀ (bytes rest : List Byte) (i : Instr), decode bytes = .ok (i, rest) → i.wellFormed = true ∧ encode i ++ rest = bytes

/-- R108, R110: three bytes always hold an instruction, whatever they are; it has one to three bytes, by the first of them. -/
def Obligations.EveryOpcodeDecodes : Prop :=
  ∀ (b0 b1 b2 : Byte) (rest : List Byte), ∃ i : Instr,
    decode (b0 :: b1 :: b2 :: rest) = .ok (i, (b0 :: b1 :: b2 :: rest).drop (instrLength b0)) ∧
      (encode i).length = instrLength b0 ∧ 1 ≤ instrLength b0 ∧ instrLength b0 ≤ 3

/-- One word of each family, written out from the encodings of the rules. -/
def Obligations.SomeWordsDecode : Prop :=
  decode [0b01000001] = .ok (.ld_B_C, []) ∧                                    -- R131
  decode [0b00001000, 0x00, 0xC1] = .ok (.ld_atNn_SP 0xC100, []) ∧             -- R153
  decode [0b11001110, 0x3B] = .ok (.adc_A_n 0x3B, []) ∧                        -- R166
  decode [0b11111000, 0xFE] = .ok (.ld_HL_SPe 0xFE, []) ∧                      -- R155
  decode [0b00111001] = .ok (.add_HL_SP, []) ∧                                 -- R201
  decode [0b11001011, 0b00110111] = .ok (.swap_A, []) ∧                        -- R227
  decode [0b11001011, 0b01111110] = .ok (.bit_7_atHL, []) ∧                    -- R232
  decode [0b11001011, 0xCB] = .ok (.set_1_E, []) ∧                             -- R265
  decode [0b11011100, 0x34, 0x12] = .ok (.call_C_nn 0x1234, []) ∧              -- R246
  decode [0b11101111] = .ok (.rst_28, []) ∧                                    -- R250
  decode [0b00010000, 0x5A] = .ok (.stop 0x5A, []) ∧                           -- R262
  decode [0b11011101] = .ok (.undefined_DD, [])                                -- R266

/-! Instructions, family by family. A clause gives the instruction's bytes and its whole next state: every part of the state that
the right side does not name is as it was. -/

/-- R131, R132. -/
def Obligations.RegisterLoads : Prop :=
  ∀ (i : Instr) (s : State),
    (∀ r r' : Reg8, i.form = .ld (.reg r) (.reg r') →
      encode i = [0b01#2 ++ r.code ++ r'.code] ∧ exec i s = .next (s.setReg r (s.reg r'))) ∧
    (∀ (r : Reg8) (n : Byte), i.form = .ldImm (.reg r) n →
      encode i = [0b00#2 ++ r.code ++ 0b110#3, n] ∧ exec i s = .next (s.setReg r n))

/-- R133, R136, R137, R140, R142, R144, R147, R149: one access, whose tick comes before it. -/
def Obligations.LoadsFromMemory : Prop :=
  ∀ (i : Instr) (s : State), s.dmaSafe = true →
    (∀ r : Reg8, i.form = .ld (.reg r) .atHL → s.supported (s.pair .hl) = true →
      encode i = [0b01#2 ++ r.code ++ 0b110#3] ∧
        exec i s = .next (s.tick.setReg r (s.tick.busByte (s.pair .hl)))) ∧
    (i.form = .ldA .bc → s.supported (s.pair .bc) = true →
      encode i = [0x0A] ∧ exec i s = .next (s.tick.setReg .a (s.tick.busByte (s.pair .bc)))) ∧
    (i.form = .ldA .de → s.supported (s.pair .de) = true →
      encode i = [0x1A] ∧ exec i s = .next (s.tick.setReg .a (s.tick.busByte (s.pair .de)))) ∧
    (∀ nn : Word, i.form = .ldA (.abs nn) → s.supported nn = true →
      encode i = [0xFA, lo nn, hi nn] ∧ exec i s = .next (s.tick.setReg .a (s.tick.busByte nn))) ∧
    (i.form = .ldA .ioC →
      encode i = [0xF2] ∧ exec i s = .next (s.tick.setReg .a (s.tick.busByte (0xFF00 + zext (s.reg .c))))) ∧
    (∀ n : Byte, i.form = .ldA (.io n) →
      encode i = [0xF0, n] ∧ exec i s = .next (s.tick.setReg .a (s.tick.busByte (0xFF00 + zext n)))) ∧
    (i.form = .ldA .hlInc → s.supported (s.pair .hl) = true →
      encode i = [0x2A] ∧ exec i s = .next
        ((s.tick.setReg .a (s.tick.busByte (s.pair .hl))).setPair .hl (s.pair .hl + 1))) ∧
    (i.form = .ldA .hlDec → s.supported (s.pair .hl) = true →
      encode i = [0x3A] ∧ exec i s = .next
        ((s.tick.setReg .a (s.tick.busByte (s.pair .hl))).setPair .hl (s.pair .hl - 1)))

/-- R134, R135, R138, R139, R141, R143, R145, R146, R148. -/
def Obligations.StoresToMemory : Prop :=
  ∀ (i : Instr) (s : State), s.dmaSafe = true →
    (∀ r : Reg8, i.form = .ld .atHL (.reg r) → s.supported (s.pair .hl) = true →
      encode i = [0b01110#5 ++ r.code] ∧ exec i s = .next (s.tick.busWrite (s.pair .hl) (s.reg r))) ∧
    (∀ n : Byte, i.form = .ldImm .atHL n → s.supported (s.pair .hl) = true →
      encode i = [0x36, n] ∧ exec i s = .next (s.tick.busWrite (s.pair .hl) n)) ∧
    (i.form = .stA .bc → s.supported (s.pair .bc) = true →
      encode i = [0x02] ∧ exec i s = .next (s.tick.busWrite (s.pair .bc) (s.reg .a))) ∧
    (i.form = .stA .de → s.supported (s.pair .de) = true →
      encode i = [0x12] ∧ exec i s = .next (s.tick.busWrite (s.pair .de) (s.reg .a))) ∧
    (∀ nn : Word, i.form = .stA (.abs nn) → s.supported nn = true →
      encode i = [0xEA, lo nn, hi nn] ∧ exec i s = .next (s.tick.busWrite nn (s.reg .a))) ∧
    (i.form = .stA .ioC →
      encode i = [0xE2] ∧ exec i s = .next (s.tick.busWrite (0xFF00 + zext (s.reg .c)) (s.reg .a))) ∧
    (∀ n : Byte, i.form = .stA (.io n) →
      encode i = [0xE0, n] ∧ exec i s = .next (s.tick.busWrite (0xFF00 + zext n) (s.reg .a))) ∧
    (i.form = .stA .hlInc → s.supported (s.pair .hl) = true →
      encode i = [0x22] ∧ exec i s = .next
        ((s.tick.busWrite (s.pair .hl) (s.reg .a)).setPair .hl (s.pair .hl + 1))) ∧
    (i.form = .stA .hlDec → s.supported (s.pair .hl) = true →
      encode i = [0x32] ∧ exec i s = .next
        ((s.tick.busWrite (s.pair .hl) (s.reg .a)).setPair .hl (s.pair .hl - 1)))

/-- R152, R154, R155, R200. The carries of `LD HL,SP+e` are the spec's decision D35. -/
def Obligations.WordLoads : Prop :=
  ∀ (i : Instr) (s : State),
    (∀ (rr : Pair) (nn : Word), i.form = .ldPair rr nn →
      encode i = [0b00#2 ++ rr.code ++ 0b0001#4, lo nn, hi nn] ∧ exec i s = .next (s.setPair rr nn)) ∧
    (i.form = .ldSPHL → encode i = [0xF9] ∧ exec i s = .next (s.setSp (s.pair .hl))) ∧
    (∀ e : Byte, i.form = .ldHLSPe e →
      encode i = [0xF8, e] ∧ exec i s = .next ((s.setPair .hl (BitVec.ofInt 16 (s.cpu.sp.toNat + e.toInt))).setFlags
        { z := false, n := false
          h := decide (0xF < s.cpu.sp.toNat % 16 + e.toNat % 16)
          c := decide (0xFF < s.cpu.sp.toNat % 256 + e.toNat) }))

/-- R153, R156, R150: the low byte first, at the lower address, each with its tick. The second write's transfer condition is that
of the state after the first, which may start a transfer (R319). The word of `AF` is `A` over the four flags and four zeros (R24).
The order of the writes is its decision D6. -/
def Obligations.WordStores : Prop :=
  ∀ (i : Instr) (s : State), s.dmaSafe = true →
    s.stackPair .af = s.reg .a ++ (BitVec.ofBool s.cpu.flags.z ++ BitVec.ofBool s.cpu.flags.n ++
      BitVec.ofBool s.cpu.flags.h ++ BitVec.ofBool s.cpu.flags.c ++ 0b0000#4) ∧
    (∀ nn : Word, i.form = .ldNnSP nn → s.supported nn = true → s.supported (nn + 1) = true →
      (s.tick.busWrite nn (lo s.cpu.sp)).dmaSafe = true →
      encode i = [0x08, lo nn, hi nn] ∧
        exec i s = .next ((s.tick.busWrite nn (lo s.cpu.sp)).tick.busWrite (nn + 1) (hi s.cpu.sp))) ∧
    (∀ qq : StackPair, i.form = .push qq → s.supported (s.cpu.sp - 2) = true → s.supported (s.cpu.sp - 1) = true →
      ((s.setSp (s.cpu.sp - 2)).tick.busWrite (s.cpu.sp - 2) (lo (s.stackPair qq))).dmaSafe = true →
      encode i = [0b11#2 ++ qq.code ++ 0b0101#4] ∧
        exec i s = .next
          (((s.setSp (s.cpu.sp - 2)).tick.busWrite (s.cpu.sp - 2) (lo (s.stackPair qq))).tick.busWrite
            (s.cpu.sp - 1) (hi (s.stackPair qq))))

/-- R157, R151, R21, R24: `POP AF` takes the flags from bits 7 to 4 of the low byte. The order of the reads is the spec's decision
D6. -/
def Obligations.Pops : Prop :=
  ∀ (i : Instr) (s : State), s.dmaSafe = true → s.supported s.cpu.sp = true → s.supported (s.cpu.sp + 1) = true →
    let l := s.tick.busByte s.cpu.sp
    let h := s.tick.tick.busByte (s.cpu.sp + 1)
    let t := s.tick.tick.setSp (s.cpu.sp + 2)
    (i.form = .pop .bc → encode i = [0xC1] ∧ exec i s = .next ((t.setReg .b h).setReg .c l)) ∧
    (i.form = .pop .de → encode i = [0xD1] ∧ exec i s = .next ((t.setReg .d h).setReg .e l)) ∧
    (i.form = .pop .hl → encode i = [0xE1] ∧ exec i s = .next ((t.setReg .h h).setReg .l l)) ∧
    (i.form = .pop .af → encode i = [0xF1] ∧
      exec i s = .next ((t.setReg .a h).setFlags ⟨l.getLsbD 7, l.getLsbD 6, l.getLsbD 5, l.getLsbD 4⟩))

/-- R161 to R166. -/
def Obligations.Additions : Prop :=
  ∀ (i : Instr) (s : State),
    (∀ r : Reg8, i.form = .alu .add (.reg r) →
      encode i = [0b10000#5 ++ r.code] ∧ exec i s = .next (addTo s (s.reg r) false)) ∧
    (i.form = .alu .add .atHL → s.dmaSafe = true → s.supported (s.pair .hl) = true →
      encode i = [0x86] ∧ exec i s = .next (addTo s.tick (s.tick.busByte (s.pair .hl)) false)) ∧
    (∀ n : Byte, i.form = .aluImm .add n → encode i = [0xC6, n] ∧ exec i s = .next (addTo s n false)) ∧
    (∀ r : Reg8, i.form = .alu .adc (.reg r) →
      encode i = [0b10001#5 ++ r.code] ∧ exec i s = .next (addTo s (s.reg r) s.cpu.flags.c)) ∧
    (i.form = .alu .adc .atHL → s.dmaSafe = true → s.supported (s.pair .hl) = true →
      encode i = [0x8E] ∧ exec i s = .next (addTo s.tick (s.tick.busByte (s.pair .hl)) s.cpu.flags.c)) ∧
    (∀ n : Byte, i.form = .aluImm .adc n → encode i = [0xCE, n] ∧ exec i s = .next (addTo s n s.cpu.flags.c))

/-- R167 to R172, R182 to R184: `CP` sets the flags of `SUB` and nothing else. -/
def Obligations.Subtractions : Prop :=
  ∀ (i : Instr) (s : State),
    (∀ r : Reg8, i.form = .alu .sub (.reg r) →
      encode i = [0b10010#5 ++ r.code] ∧ exec i s = .next (subFrom s (s.reg r) false)) ∧
    (i.form = .alu .sub .atHL → s.dmaSafe = true → s.supported (s.pair .hl) = true →
      encode i = [0x96] ∧ exec i s = .next (subFrom s.tick (s.tick.busByte (s.pair .hl)) false)) ∧
    (∀ n : Byte, i.form = .aluImm .sub n → encode i = [0xD6, n] ∧ exec i s = .next (subFrom s n false)) ∧
    (∀ r : Reg8, i.form = .alu .sbc (.reg r) →
      encode i = [0b10011#5 ++ r.code] ∧ exec i s = .next (subFrom s (s.reg r) s.cpu.flags.c)) ∧
    (i.form = .alu .sbc .atHL → s.dmaSafe = true → s.supported (s.pair .hl) = true →
      encode i = [0x9E] ∧ exec i s = .next (subFrom s.tick (s.tick.busByte (s.pair .hl)) s.cpu.flags.c)) ∧
    (∀ n : Byte, i.form = .aluImm .sbc n → encode i = [0xDE, n] ∧ exec i s = .next (subFrom s n s.cpu.flags.c)) ∧
    (∀ r : Reg8, i.form = .alu .cp (.reg r) →
      encode i = [0b10111#5 ++ r.code] ∧ exec i s = .next (s.setFlags (subFlags (s.reg .a) (s.reg r) false))) ∧
    (i.form = .alu .cp .atHL → s.dmaSafe = true → s.supported (s.pair .hl) = true →
      encode i = [0xBE] ∧
        exec i s = .next (s.tick.setFlags (subFlags (s.reg .a) (s.tick.busByte (s.pair .hl)) false))) ∧
    (∀ n : Byte, i.form = .aluImm .cp n →
      encode i = [0xFE, n] ∧ exec i s = .next (s.setFlags (subFlags (s.reg .a) n false)))

/-- R173 to R181. -/
def Obligations.LogicalOperations : Prop :=
  ∀ (i : Instr) (s : State),
    (∀ r : Reg8, i.form = .alu .and (.reg r) →
      encode i = [0b10100#5 ++ r.code] ∧ exec i s = .next (logicTo s (s.reg .a &&& s.reg r) true)) ∧
    (i.form = .alu .and .atHL → s.dmaSafe = true → s.supported (s.pair .hl) = true →
      encode i = [0xA6] ∧ exec i s = .next (logicTo s.tick (s.reg .a &&& s.tick.busByte (s.pair .hl)) true)) ∧
    (∀ n : Byte, i.form = .aluImm .and n → encode i = [0xE6, n] ∧ exec i s = .next (logicTo s (s.reg .a &&& n) true)) ∧
    (∀ r : Reg8, i.form = .alu .xor (.reg r) →
      encode i = [0b10101#5 ++ r.code] ∧ exec i s = .next (logicTo s (s.reg .a ^^^ s.reg r) false)) ∧
    (i.form = .alu .xor .atHL → s.dmaSafe = true → s.supported (s.pair .hl) = true →
      encode i = [0xAE] ∧ exec i s = .next (logicTo s.tick (s.reg .a ^^^ s.tick.busByte (s.pair .hl)) false)) ∧
    (∀ n : Byte, i.form = .aluImm .xor n → encode i = [0xEE, n] ∧ exec i s = .next (logicTo s (s.reg .a ^^^ n) false)) ∧
    (∀ r : Reg8, i.form = .alu .or (.reg r) →
      encode i = [0b10110#5 ++ r.code] ∧ exec i s = .next (logicTo s (s.reg .a ||| s.reg r) false)) ∧
    (i.form = .alu .or .atHL → s.dmaSafe = true → s.supported (s.pair .hl) = true →
      encode i = [0xB6] ∧ exec i s = .next (logicTo s.tick (s.reg .a ||| s.tick.busByte (s.pair .hl)) false)) ∧
    (∀ n : Byte, i.form = .aluImm .or n → encode i = [0xF6, n] ∧ exec i s = .next (logicTo s (s.reg .a ||| n) false))

/-- R185 to R188: the carry flag is kept; the forms on `(HL)` read, then write, then set the flags. The write's transfer condition
and page are those of the state after the read's tick. -/
def Obligations.IncrementsAndDecrements : Prop :=
  ∀ (i : Instr) (s : State),
    (∀ r : Reg8, i.form = .inc (.reg r) →
      encode i = [0b00#2 ++ r.code ++ 0b100#3] ∧
        exec i s = .next ((s.setReg r (BitVec.ofNat 8 ((s.reg r).toNat + 1))).setFlags
          ⟨decide ((s.reg r).toNat = 255), false, decide ((s.reg r).toNat % 16 = 15), s.cpu.flags.c⟩)) ∧
    (∀ r : Reg8, i.form = .dec (.reg r) →
      encode i = [0b00#2 ++ r.code ++ 0b101#3] ∧
        exec i s = .next ((s.setReg r (BitVec.ofNat 8 ((s.reg r).toNat + 255))).setFlags
          ⟨decide ((s.reg r).toNat = 1), true, decide ((s.reg r).toNat % 16 = 0), s.cpu.flags.c⟩)) ∧
    (s.dmaSafe = true → s.supported (s.pair .hl) = true →
      let v := (s.tick.busByte (s.pair .hl)).toNat
      (i.form = .inc .atHL →
        encode i = [0x34] ∧
          exec i s = .next ((s.tick.tick.busWrite (s.pair .hl) (BitVec.ofNat 8 (v + 1))).setFlags
            ⟨decide (v = 255), false, decide (v % 16 = 15), s.cpu.flags.c⟩)) ∧
      (i.form = .dec .atHL →
        encode i = [0x35] ∧
          exec i s = .next ((s.tick.tick.busWrite (s.pair .hl) (BitVec.ofNat 8 (v + 255))).setFlags
            ⟨decide (v = 1), true, decide (v % 16 = 0), s.cpu.flags.c⟩)))

/-- R189: the six tests of the adjustment, over the integers. The tests are the spec's decision D34. -/
def Obligations.DecimalAdjust : Prop :=
  ∀ (i : Instr) (s : State), i.form = .daa →
    let a := (s.reg .a).toNat
    let f := s.cpu.flags
    let low := if f.h = true ∨ (f.n = false ∧ 9 < a % 16) then 6 else 0
    let carry := f.c || (!f.n && decide (0x99 < a))
    let high := if carry = true then 0x60 else 0
    let r := (if f.n = true then a + 512 - (low + high) else a + low + high) % 256
    encode i = [0x27] ∧
      exec i s = .next ((s.setReg .a (BitVec.ofNat 8 r)).setFlags ⟨decide (r = 0), f.n, false, carry⟩)

/-- What R189 is for: after an addition of two packed decimals it leaves the decimal sum, and after a subtraction the decimal
difference, with the decimal carry or borrow in `C`. It rests on the spec's decision D34. -/
def Obligations.DecimalAdjustIsDecimal : Prop :=
  ∀ (s t : State) (x1 x0 y1 y0 : Nat), x1 < 10 → x0 < 10 → y1 < 10 → y0 < 10 →
    s.reg .a = BitVec.ofNat 8 (16 * x1 + x0) → s.reg .b = BitVec.ofNat 8 (16 * y1 + y0) →
    let x := 10 * x1 + x0
    let y := 10 * y1 + y0
    (exec .add_A_B s = .next t →
      ∃ u, exec .daa t = .next u ∧ u.reg .a = BitVec.ofNat 8 (16 * ((x + y) / 10 % 10) + (x + y) % 10) ∧
        u.cpu.flags.c = decide (100 ≤ x + y)) ∧
    (exec .sub_B s = .next t →
      ∃ u, exec .daa t = .next u ∧
        u.reg .a = BitVec.ofNat 8 (16 * ((x + 100 - y) / 10 % 10) + (x + 100 - y) % 10) ∧
        u.cpu.flags.c = decide (x < y))

/-- R190, R191, R192. -/
def Obligations.ComplementsAndCarry : Prop :=
  ∀ (i : Instr) (s : State),
    (i.form = .cpl → encode i = [0x2F] ∧
      exec i s = .next ((s.setReg .a (~~~ s.reg .a)).setFlags ⟨s.cpu.flags.z, true, true, s.cpu.flags.c⟩)) ∧
    (i.form = .scf → encode i = [0x37] ∧ exec i s = .next (s.setFlags ⟨s.cpu.flags.z, false, false, true⟩)) ∧
    (i.form = .ccf → encode i = [0x3F] ∧ exec i s = .next (s.setFlags ⟨s.cpu.flags.z, false, false, !s.cpu.flags.c⟩))

/-- R200 to R204. The carries of `ADD SP,e` are the spec's decision D35. -/
def Obligations.WordArithmetic : Prop :=
  ∀ (i : Instr) (s : State),
    (∀ rr : Pair, i.form = .addHL rr →
      encode i = [0b00#2 ++ rr.code ++ 0b1001#4] ∧
        exec i s = .next ((s.setPair .hl (BitVec.ofNat 16 ((s.pair .hl).toNat + (s.pair rr).toNat))).setFlags
          { z := s.cpu.flags.z, n := false
            h := decide (0xFFF < (s.pair .hl).toNat % 4096 + (s.pair rr).toNat % 4096)
            c := decide (0xFFFF < (s.pair .hl).toNat + (s.pair rr).toNat) })) ∧
    (∀ rr : Pair, i.form = .incPair rr →
      encode i = [0b00#2 ++ rr.code ++ 0b0011#4] ∧ exec i s = .next (s.setPair rr (s.pair rr + 1))) ∧
    (∀ rr : Pair, i.form = .decPair rr →
      encode i = [0b00#2 ++ rr.code ++ 0b1011#4] ∧ exec i s = .next (s.setPair rr (s.pair rr - 1))) ∧
    (∀ e : Byte, i.form = .addSP e →
      encode i = [0xE8, e] ∧ exec i s = .next ((s.setSp (BitVec.ofInt 16 (s.cpu.sp.toNat + e.toInt))).setFlags
        { z := false, n := false
          h := decide (0xF < s.cpu.sp.toNat % 16 + e.toNat % 16)
          c := decide (0xFF < s.cpu.sp.toNat % 256 + e.toNat) }))

/-- R211 to R214: `Z` is cleared whatever the result. -/
def Obligations.RotatesOfA : Prop :=
  ∀ (i : Instr) (s : State),
    let a := s.reg .a
    let c := s.cpu.flags.c
    (i.form = .rlca → encode i = [0x07] ∧
      exec i s = .next ((s.setReg .a (rotValue .rlc a c)).setFlags ⟨false, false, false, rotOut .rlc a⟩)) ∧
    (i.form = .rrca → encode i = [0x0F] ∧
      exec i s = .next ((s.setReg .a (rotValue .rrc a c)).setFlags ⟨false, false, false, rotOut .rrc a⟩)) ∧
    (i.form = .rla → encode i = [0x17] ∧
      exec i s = .next ((s.setReg .a (rotValue .rl a c)).setFlags ⟨false, false, false, rotOut .rl a⟩)) ∧
    (i.form = .rra → encode i = [0x1F] ∧
      exec i s = .next ((s.setReg .a (rotValue .rr a c)).setFlags ⟨false, false, false, rotOut .rr a⟩))

/-- R215 to R230, with the functions of R210: the register forms, and the forms on `(HL)`, which read, then write. -/
def Obligations.RotatesAndShifts : Prop :=
  ∀ (i : Instr) (s : State) (k : RotOp),
    (∀ r : Reg8, i.form = .rot k (.reg r) →
      encode i = [0xCB, 0b00#2 ++ k.code ++ r.code] ∧
        exec i s = .next ((s.setReg r (rotValue k (s.reg r) s.cpu.flags.c)).setFlags
          (rotResultFlags k (s.reg r) s.cpu.flags.c))) ∧
    (i.form = .rot k .atHL → s.dmaSafe = true → s.supported (s.pair .hl) = true →
      let v := s.tick.busByte (s.pair .hl)
      encode i = [0xCB, 0b00#2 ++ k.code ++ 0b110#3] ∧
        exec i s = .next ((s.tick.tick.busWrite (s.pair .hl) (rotValue k v s.cpu.flags.c)).setFlags
          (rotResultFlags k v s.cpu.flags.c)))

/-- R231 to R236. -/
def Obligations.BitOperations : Prop :=
  ∀ (i : Instr) (s : State) (b : BitVec 3),
    (∀ r : Reg8, i.form = .bit b (.reg r) →
      encode i = [0xCB, 0b01#2 ++ b ++ r.code] ∧
        exec i s = .next (s.setFlags ⟨!(s.reg r).getLsbD b.toNat, false, true, s.cpu.flags.c⟩)) ∧
    (∀ r : Reg8, i.form = .res b (.reg r) →
      encode i = [0xCB, 0b10#2 ++ b ++ r.code] ∧
        exec i s = .next (s.setReg r (s.reg r &&& ~~~ (BitVec.twoPow 8 b.toNat)))) ∧
    (∀ r : Reg8, i.form = .set b (.reg r) →
      encode i = [0xCB, 0b11#2 ++ b ++ r.code] ∧
        exec i s = .next (s.setReg r (s.reg r ||| BitVec.twoPow 8 b.toNat))) ∧
    (s.dmaSafe = true → s.supported (s.pair .hl) = true →
      let v := s.tick.busByte (s.pair .hl)
      (i.form = .bit b .atHL →
        encode i = [0xCB, 0b01#2 ++ b ++ 0b110#3] ∧
          exec i s = .next (s.tick.setFlags ⟨!v.getLsbD b.toNat, false, true, s.cpu.flags.c⟩)) ∧
      (i.form = .res b .atHL →
        encode i = [0xCB, 0b10#2 ++ b ++ 0b110#3] ∧
          exec i s = .next (s.tick.tick.busWrite (s.pair .hl) (v &&& ~~~ (BitVec.twoPow 8 b.toNat)))) ∧
      (i.form = .set b .atHL →
        encode i = [0xCB, 0b11#2 ++ b ++ 0b110#3] ∧
          exec i s = .next (s.tick.tick.busWrite (s.pair .hl) (v ||| BitVec.twoPow 8 b.toNat))))

/-- R109 and R240 to R244: `pc` is the address after the instruction, the base of a relative jump (R251). -/
def Obligations.Jumps : Prop :=
  ∀ (i : Instr) (s : State),
    (∀ nn : Word, i.form = .jp nn → encode i = [0xC3, lo nn, hi nn] ∧ exec i s = .next (s.setPc nn)) ∧
    (∀ (cc : Cond) (nn : Word), i.form = .jpCC cc nn →
      encode i = [0b110#3 ++ cc.code ++ 0b010#3, lo nn, hi nn] ∧
        exec i s = .next (if s.cpu.holds cc = true then s.setPc nn else s)) ∧
    (i.form = .jpHL → encode i = [0xE9] ∧ exec i s = .next (s.setPc (s.pair .hl))) ∧
    (∀ e : Byte, i.form = .jr e →
      encode i = [0x18, e] ∧ exec i s = .next (s.setPc (BitVec.ofInt 16 (s.cpu.pc.toNat + e.toInt)))) ∧
    (∀ (cc : Cond) (e : Byte), i.form = .jrCC cc e →
      encode i = [0b001#3 ++ cc.code ++ 0b000#3, e] ∧
        exec i s = .next (if s.cpu.holds cc = true then s.setPc (BitVec.ofInt 16 (s.cpu.pc.toNat + e.toInt)) else s)) ∧
    (s.cpu.holds .nz = !s.cpu.flags.z ∧ s.cpu.holds .z = s.cpu.flags.z ∧
      s.cpu.holds .nc = !s.cpu.flags.c ∧ s.cpu.holds .c = s.cpu.flags.c)

/-- R245, R246, R250, with `Push16` of R150: the pushed word is the address after the instruction; a call that is not taken
changes nothing. The order of the writes is the spec's decision D6. -/
def Obligations.Calls : Prop :=
  ∀ (i : Instr) (s : State),
    (∀ (cc : Cond) (nn : Word), i.form = .callCC cc nn →
      encode i = [0b110#3 ++ cc.code ++ 0b100#3, lo nn, hi nn] ∧ (s.cpu.holds cc = false → exec i s = .next s)) ∧
    (s.dmaSafe = true → s.supported (s.cpu.sp - 2) = true → s.supported (s.cpu.sp - 1) = true →
      ((s.setSp (s.cpu.sp - 2)).tick.busWrite (s.cpu.sp - 2) (lo s.cpu.pc)).dmaSafe = true →
      let pushed :=
        ((s.setSp (s.cpu.sp - 2)).tick.busWrite (s.cpu.sp - 2) (lo s.cpu.pc)).tick.busWrite (s.cpu.sp - 1) (hi s.cpu.pc)
      (∀ nn : Word, i.form = .call nn → encode i = [0xCD, lo nn, hi nn] ∧ exec i s = .next (pushed.setPc nn)) ∧
      (∀ (cc : Cond) (nn : Word), i.form = .callCC cc nn → s.cpu.holds cc = true → exec i s = .next (pushed.setPc nn)) ∧
      (∀ n : BitVec 3, i.form = .rst n →
        encode i = [0b11#2 ++ n ++ 0b111#3] ∧ exec i s = .next (pushed.setPc (BitVec.ofNat 16 (8 * n.toNat)))))

/-- R247, R248, R249, with `Pop16` of R151; a return that is not taken changes nothing; `RETI` enables interrupts at once and
leaves a queued enable alone. The order of the reads is the spec's decision D6, `RETI` its decision D10. -/
def Obligations.Returns : Prop :=
  ∀ (i : Instr) (s : State),
    (∀ cc : Cond, i.form = .retCC cc →
      encode i = [0b110#3 ++ cc.code ++ 0b000#3] ∧ (s.cpu.holds cc = false → exec i s = .next s)) ∧
    (s.dmaSafe = true → s.supported s.cpu.sp = true → s.supported (s.cpu.sp + 1) = true →
      let target := word (s.tick.tick.busByte (s.cpu.sp + 1)) (s.tick.busByte s.cpu.sp)
      let t := (s.tick.tick.setSp (s.cpu.sp + 2)).setPc target
      (i.form = .ret → encode i = [0xC9] ∧ exec i s = .next t) ∧
      (∀ cc : Cond, i.form = .retCC cc → s.cpu.holds cc = true → exec i s = .next t) ∧
      (i.form = .reti → encode i = [0xD9] ∧ exec i s = .next (t.setIme true)))

/-- R260 to R264. `HALT` and `STOP` are the spec's decisions D8 and D9; where `STOP` raises, log 13. -/
def Obligations.SystemInstructions : Prop :=
  ∀ (i : Instr) (s : State),
    (i.form = .nop → encode i = [0x00] ∧ exec i s = .next s) ∧
    (i.form = .halt → encode i = [0x76] ∧ exec i s = .next (s.setHalted true)) ∧
    (∀ n : Byte, i.form = .stop n → encode i = [0x10, n] ∧
      (s.params.stopPolicy = .stop → exec i s = .next (s.setStopped true)) ∧
      (s.params.stopPolicy = .fault →
        exec i s = .next (s.setFault (some (.undefinedOpcode .standard 0x10 s.cpu.snapshot))))) ∧
    (i.form = .di → encode i = [0xF3] ∧ exec i s = .next ((s.setIme false).setEiPending false)) ∧
    (i.form = .ei → encode i = [0xFB] ∧ exec i s = .next (s.setEiPending true))

/-- R266, R291: the eleven undefined bytes, and no other byte of the standard space, latch the fault with the registers of that
moment; nothing else changes. The eleven bytes are the spec's decision D3; that a fault is a next state is log 1. -/
def Obligations.UndefinedOpcodes : Prop :=
  ∀ (op : Byte),
    (op ∈ [0xD3, 0xDB, 0xDD, 0xE3, 0xE4, 0xEB, 0xEC, 0xED, 0xF4, 0xFC, 0xFD] →
      ∃ i, decode [op] = .ok (i, []) ∧ i.form = .undefined op) ∧
    (∀ (i : Instr), i.form = .undefined op →
      op ∈ [0xD3, 0xDB, 0xDD, 0xE3, 0xE4, 0xEB, 0xEC, 0xED, 0xF4, 0xFC, 0xFD] ∧
      ∀ s : State, exec i s = .next (s.setFault (some (.undefinedOpcode .standard op s.cpu.snapshot))))

/-- R265: the row `PREFIX CB` with its second byte does what the extended instruction of that byte does. The row's place in the
model is log 11. -/
def Obligations.PrefixDispatches : Prop :=
  ∀ (op2 : Byte) (s : State),
    decode [0xCB, op2] = .ok (decodeExtended op2, []) ∧
      ∃ t, exec (decodeExtended op2) s = .next t ∧ exec (.prefix_CB op2) s = .next t

/-- R74, R292, R293, R150, R285: every access of the CPU at an unsupported address ends the step there with the fault latched. Its
tick has happened and so has what came before it (a first byte stored, the new `sp` of a push, `pc` past the bytes fetched); no
register, flag, address update or store after it has. The clauses: the operand `(HL)`; the accumulator's loads and stores; either
byte of `LD (nn),SP`, of a push, of a pop; any byte of a fetch; either push of interrupt service. The row `PREFIX CB` is
`PrefixDispatches`'. The addresses are the spec's decision D12; that a fault is a next state is log 1. -/
def Obligations.UnsupportedAccessFaults : Prop :=
  ∀ (i : Instr) (s : State), s.dmaSafe = true →
    let sp := s.cpu.sp
    let pushed (v : Word) : State := (s.setSp (sp - 2)).tick.busWrite (sp - 2) (lo v)
    let snapshot := { s.cpu.snapshot with sp := sp - 2 }
    let calls :=
      (∃ nn, i.form = .call nn) ∨ (∃ n, i.form = .rst n) ∨ (∃ cc nn, i.form = .callCC cc nn ∧ s.cpu.holds cc = true)
    let pops :=
      (∃ qq, i.form = .pop qq) ∨ i.form = .ret ∨ i.form = .reti ∨ (∃ cc, i.form = .retCC cc ∧ s.cpu.holds cc = true)
    (s.supported (s.pair .hl) = false →
      ((∃ r, i.form = .ld (.reg r) .atHL) ∨ (∃ op, i.form = .alu op .atHL) ∨ i.form = .inc .atHL ∨ i.form = .dec .atHL ∨
        (∃ k, i.form = .rot k .atHL) ∨ (∃ b, i.form = .bit b .atHL) ∨ (∃ b, i.form = .res b .atHL) ∨
        (∃ b, i.form = .set b .atHL) →
        exec i s = .next (s.tick.setFault (some (.unsupportedAddress (s.pair .hl) .read s.cpu.snapshot)))) ∧
      ((∃ r, i.form = .ld .atHL (.reg r)) ∨ (∃ n, i.form = .ldImm .atHL n) →
        exec i s = .next (s.tick.setFault (some (.unsupportedAddress (s.pair .hl) .write s.cpu.snapshot))))) ∧
    (∀ m : AccMem, s.supported (accAddress m s) = false →
      (i.form = .ldA m →
        exec i s = .next (s.tick.setFault (some (.unsupportedAddress (accAddress m s) .read s.cpu.snapshot)))) ∧
      (i.form = .stA m →
        exec i s = .next (s.tick.setFault (some (.unsupportedAddress (accAddress m s) .write s.cpu.snapshot))))) ∧
    (∀ nn : Word, i.form = .ldNnSP nn →
      (s.supported nn = false →
        exec i s = .next (s.tick.setFault (some (.unsupportedAddress nn .write s.cpu.snapshot)))) ∧
      (s.supported nn = true → s.supported (nn + 1) = false →
        exec i s = .next ((s.tick.busWrite nn (lo sp)).tick.setFault
          (some (.unsupportedAddress (nn + 1) .write s.cpu.snapshot))))) ∧
    (s.supported (sp - 2) = false → (∃ qq, i.form = .push qq) ∨ calls →
      exec i s = .next ((s.setSp (sp - 2)).tick.setFault (some (.unsupportedAddress (sp - 2) .write snapshot)))) ∧
    (s.supported (sp - 2) = true → s.supported (sp - 1) = false →
      (∀ qq, i.form = .push qq → exec i s = .next
        ((pushed (s.stackPair qq)).tick.setFault (some (.unsupportedAddress (sp - 1) .write snapshot)))) ∧
      (calls → exec i s = .next
        ((pushed s.cpu.pc).tick.setFault (some (.unsupportedAddress (sp - 1) .write snapshot))))) ∧
    (s.supported sp = false → pops →
      exec i s = .next (s.tick.setFault (some (.unsupportedAddress sp .read s.cpu.snapshot)))) ∧
    (s.supported sp = true → s.supported (sp + 1) = false → pops →
      exec i s = .next (s.tick.tick.setFault (some (.unsupportedAddress (sp + 1) .read s.cpu.snapshot)))) ∧
    (s.params.acceptable = true → s.fault = none → s.cpu.stopped = false →
      ((s.cpu.ime = true → s.irq.ie &&& s.irq.if_ = 0) → (s.cpu.halted = true → s.irq.ie &&& s.irq.if_ ≠ 0) →
        let u := s.setCpu { s.cpu with ime := s.cpu.ime || s.cpu.eiPending, eiPending := false, halted := false }
        ∀ k : Nat, (k = 0 ∨ k < instrLength ((u.ticks 1).busByte s.cpu.pc)) →
          (∀ j : Nat, j < k → s.supported (s.cpu.pc + BitVec.ofNat 16 j) = true) →
          s.supported (s.cpu.pc + BitVec.ofNat 16 k) = false →
          step s = .next (((u.ticks (k + 1)).setPc (s.cpu.pc + BitVec.ofNat 16 k)).setFault
            (some (.unsupportedAddress (s.cpu.pc + BitVec.ofNat 16 k) .read
              { u.cpu.snapshot with pc := s.cpu.pc + BitVec.ofNat 16 k })))) ∧
      (∀ n : Nat, n < 5 → s.cpu.ime = true → s.irq.ie.getLsbD n = true → s.irq.if_.getLsbD n = true →
        (∀ j : Nat, j < n → (s.irq.ie.getLsbD j && s.irq.if_.getLsbD j) = false) →
        let t := ((((s.setIrq { s.irq with if_ := s.irq.if_ &&& ~~~ (BitVec.twoPow 5 n) }).setIme false).setEiPending
          false).setHalted false).setSp (sp - 2)
        (s.supported (sp - 2) = false →
          step s = .next (t.tick.setFault (some (.unsupportedAddress (sp - 2) .write t.cpu.snapshot)))) ∧
        (s.supported (sp - 2) = true → s.supported (sp - 1) = false →
          step s = .next ((t.tick.busWrite (sp - 2) (lo s.cpu.pc)).tick.setFault
            (some (.unsupportedAddress (sp - 1) .write t.cpu.snapshot))))))

/-- No instruction is left without a meaning: each answers a next state in every state (log 1: a fault is one). -/
def Obligations.EveryInstructionAnswersNext : Prop := ∀ (i : Instr) (s : State), ∃ t, exec i s = .next t

/-! Frames. -/

/-- What an instruction leaves of the CPU: every general register but `destRegs`, `sp` but for `writesSp`, the flags but
`writesFlags`, and the four control bits but for the instructions that write them (R160, R25 to R27). -/
def Obligations.CpuFrame : Prop :=
  ∀ (i : Instr) (s t : State), exec i s = .next t →
    (∀ r : Reg8, r ∉ destRegs (effectForm i) → t.reg r = s.reg r) ∧
    (writesSp (effectForm i) = false → t.cpu.sp = s.cpu.sp) ∧
    ((writesFlags (effectForm i)).z = false → t.cpu.flags.z = s.cpu.flags.z) ∧
    ((writesFlags (effectForm i)).n = false → t.cpu.flags.n = s.cpu.flags.n) ∧
    ((writesFlags (effectForm i)).h = false → t.cpu.flags.h = s.cpu.flags.h) ∧
    ((writesFlags (effectForm i)).c = false → t.cpu.flags.c = s.cpu.flags.c) ∧
    (effectForm i ≠ .di → effectForm i ≠ .reti → t.cpu.ime = s.cpu.ime) ∧
    (effectForm i ≠ .di → effectForm i ≠ .ei → t.cpu.eiPending = s.cpu.eiPending) ∧
    (effectForm i ≠ .halt → t.cpu.halted = s.cpu.halted) ∧
    ((∀ n, effectForm i ≠ .stop n) → t.cpu.stopped = s.cpu.stopped)

/-- What an instruction leaves of memory: every byte but those at the addresses it stores to. While a transfer runs, or where the
instruction itself starts one, the DMA engine may change `oam` beside it (R318), and only `oam`. -/
def Obligations.MemoryFrame : Prop :=
  ∀ (i : Instr) (s t : State) (a : Word), exec i s = .next t →
    a ∉ storesTo (effectForm i) s →
    (0xFE00 ≤ a.toNat ∧ a.toNat < 0xFEA0 → s.dma.active = false ∧ 0xFF46 ∉ storesTo (effectForm i) s) →
    t.mem.read a = s.mem.read a

/-- What an instruction that stores nothing leaves of the rest: the registers only a store, a button or reset writes (R81: no read
changes a register). One that makes no data access leaves the pending bits and the peripherals too, and the fault latch unless its
effect is to raise (R266, R262). -/
def Obligations.NonStoringFrame : Prop :=
  ∀ (i : Instr) (s t : State), exec i s = .next t → storesTo (effectForm i) s = [] →
    t.irq.ie = s.irq.ie ∧ t.timer.tma = s.timer.tma ∧ t.timer.tac = s.timer.tac ∧ t.dma.src = s.dma.src ∧
    t.ppu.lcdc = s.ppu.lcdc ∧ t.ppu.statEn = s.ppu.statEn ∧ t.ppu.lyc = s.ppu.lyc ∧
    t.ppu.scy = s.ppu.scy ∧ t.ppu.scx = s.ppu.scx ∧ t.ppu.wy = s.ppu.wy ∧ t.ppu.wx = s.ppu.wx ∧
    t.ppu.bgp = s.ppu.bgp ∧ t.ppu.obp0 = s.ppu.obp0 ∧ t.ppu.obp1 = s.ppu.obp1 ∧
    t.joypad = s.joypad ∧ t.serial = s.serial ∧ t.bootActive = s.bootActive ∧ t.cart = s.cart ∧ t.params = s.params ∧
    (dataAccesses (effectForm i) s = 0 →
      t.irq = s.irq ∧ t.timer = s.timer ∧ t.dma = s.dma ∧ t.ppu = s.ppu ∧ t.mem = s.mem ∧ t.sink = s.sink ∧
      ((∀ op, effectForm i ≠ .undefined op) → (∀ n, effectForm i ≠ .stop n) → t.fault = s.fault))

/-- R405, R61: an instruction that does not fault ticks once for each of its accesses, as the free-running counter shows. -/
def Obligations.TickPerAccess : Prop :=
  ∀ (i : Instr) (s t : State), exec i s = .next t → t.fault = none →
    0xFF04 ∉ storesTo (effectForm i) s →
    t.timer.counter = s.timer.counter + BitVec.ofNat 16 (dataAccesses (effectForm i) s)

/-! The bus. -/

/-- R62, R63, R64, R65: the tick, then the dispatch; a word is two bytes, the low one first and at the lower address. The order of
the two is the spec's decision D6. -/
def Obligations.BusAccesses : Prop :=
  ∀ (s : State) (a : Word), s.dmaSafe = true → s.supported a = true →
    readByte a s = .done (s.tick.busByte a) s.tick ∧
    (∀ v, writeByte a v s = .done () (s.tick.busWrite a v)) ∧
    (s.supported (a + 1) = true →
      readWord a s = .done (word (s.tick.tick.busByte (a + 1)) (s.tick.busByte a)) s.tick.tick ∧
      (∀ v : Word, (s.tick.busWrite a (lo v)).dmaSafe = true →
        writeWord a v s = .done () ((s.tick.busWrite a (lo v)).tick.busWrite (a + 1) (hi v))))

/-- R66, R68 to R73, R77, R83: what a read returns, by address. The bounds and the defaults are the spec's decisions D11, D16, D29
and D30. -/
def Obligations.ReadDispatch : Prop :=
  ∀ (s : State) (a : Word),
    (a.toNat < 0x100 → s.bootActive = true → s.busByte a = Memory.read (s.params.bootRom.getD []) a) ∧
    (a.toNat < 0x4000 → (0x100 ≤ a.toNat ∨ s.bootActive = false) → s.busByte a = s.mem.read a) ∧
    (0x4000 ≤ a.toNat → a.toNat < 0x8000 → s.params.cart = .romOnly → s.busByte a = s.mem.read a) ∧
    (0x8000 ≤ a.toNat → a.toNat < 0xA000 → s.busByte a = s.mem.read a) ∧
    (0xA000 ≤ a.toNat → a.toNat < 0xC000 → (s.params.cart = .romOnly ∨ s.cart.ramEnabled = false) → s.busByte a = 0xFF) ∧
    (0xC000 ≤ a.toNat → a.toNat < 0xE000 → s.busByte a = s.mem.read a) ∧
    (0xFE00 ≤ a.toNat → a.toNat < 0xFEA0 → s.busByte a = if s.dma.active = true then 0xFF else s.mem.read a) ∧
    (0xFF80 ≤ a.toNat → a.toNat < 0xFFFF → s.busByte a = s.mem.read a)

/-- R67, R69 to R73, R77, R83: what a write does, by address. The bounds and the defaults are the spec's decisions D11, D16 and
D30. -/
def Obligations.WriteDispatch : Prop :=
  ∀ (s : State) (a : Word) (v : Byte),
    (a.toNat < 0x8000 → s.params.cart = .romOnly → s.busWrite a v = s) ∧
    (0x8000 ≤ a.toNat → a.toNat < 0xA000 → s.busWrite a v = s.setMem (s.mem.write a v)) ∧
    (0xA000 ≤ a.toNat → a.toNat < 0xC000 → (s.params.cart = .romOnly ∨ s.cart.ramEnabled = false) → s.busWrite a v = s) ∧
    (0xC000 ≤ a.toNat → a.toNat < 0xE000 → s.busWrite a v = s.setMem (s.mem.write a v)) ∧
    (0xFE00 ≤ a.toNat → a.toNat < 0xFEA0 →
      s.busWrite a v = if s.dma.active = true then s else s.setMem (s.mem.write a v)) ∧
    (0xFF80 ≤ a.toNat → a.toNat < 0xFFFF → s.busWrite a v = s.setMem (s.mem.write a v))

/-- R74: an access raises exactly in the two unsupported ranges under policy `fault`; under `open_bus` a read there is `0xFF` and
a write changes nothing. R75: so it is, under either policy and with no fault, at the addresses of the I/O page that hold no
register. These are the spec's decisions D12 and D15. -/
def Obligations.HolesInTheMap : Prop :=
  ∀ (s : State) (a : Word) (v : Byte),
    (s.supported a = false ↔ s.params.unmappedPolicy = .fault ∧
      ((0xE000 ≤ a.toNat ∧ a.toNat < 0xFE00) ∨ (0xFEA0 ≤ a.toNat ∧ a.toNat < 0xFF00))) ∧
    (((0xE000 ≤ a.toNat ∧ a.toNat < 0xFE00) ∨ (0xFEA0 ≤ a.toNat ∧ a.toNat < 0xFF00)) → s.params.unmappedPolicy = .openBus →
      s.busByte a = 0xFF ∧ s.busWrite a v = s) ∧
    ((a.toNat = 0xFF03 ∨ (0xFF08 ≤ a.toNat ∧ a.toNat ≤ 0xFF0E) ∨ (0xFF10 ≤ a.toNat ∧ a.toNat ≤ 0xFF3F) ∨
        (0xFF4C ≤ a.toNat ∧ a.toNat ≤ 0xFF4F) ∨ (0xFF51 ≤ a.toNat ∧ a.toNat ≤ 0xFF7F)) →
      s.busByte a = 0xFF ∧ s.busWrite a v = s)

/-- R41, R76, R325: the read column, with `UNUSED_READ_BITS` in every bit that holds no state; the button nibble of JOYP bit by
bit. `UNUSED_READ_BITS` is the spec's decision D14. -/
def Obligations.RegisterReads : Prop :=
  ∀ (s : State),
    let u : Nat := if s.params.unusedReadBits = true then 1 else 0
    (∀ k : Nat, k < 4 → (s.busByte 0xFF00).getLsbD k =
      !((!s.joypad.sel.getLsbD 0 && s.joypad.pressed.getLsbD k) ||
        (!s.joypad.sel.getLsbD 1 && s.joypad.pressed.getLsbD (k + 4)))) ∧
    ((s.busByte 0xFF00).toNat / 16 = 12 * u + s.joypad.sel.toNat) ∧
    (s.busByte 0xFF01 = s.serial.sb) ∧
    (s.busByte 0xFF02 = BitVec.ofNat 8 (128 * s.serial.scStart.toNat + 126 * u + s.serial.scClock.toNat)) ∧
    (s.busByte 0xFF04 = BitVec.ofNat 8 (s.timer.counter.toNat / 64)) ∧
    (s.busByte 0xFF05 = s.timer.tima) ∧ (s.busByte 0xFF06 = s.timer.tma) ∧
    (s.busByte 0xFF07 = BitVec.ofNat 8 (248 * u + s.timer.tac.toNat)) ∧
    (s.busByte 0xFF0F = BitVec.ofNat 8 (224 * u + s.irq.if_.toNat)) ∧
    (s.busByte 0xFF40 = s.ppu.lcdc) ∧
    (s.busByte 0xFF41 =
      BitVec.ofNat 8 (128 * u + 8 * s.ppu.statEn.toNat + 4 * s.ppu.lycFlag.toNat + s.ppu.mode.code.toNat)) ∧
    (s.busByte 0xFF42 = s.ppu.scy) ∧ (s.busByte 0xFF43 = s.ppu.scx) ∧ (s.busByte 0xFF44 = s.ppu.ly) ∧
    (s.busByte 0xFF45 = s.ppu.lyc) ∧ (s.busByte 0xFF46 = s.dma.src) ∧ (s.busByte 0xFF47 = s.ppu.bgp) ∧
    (s.busByte 0xFF48 = s.ppu.obp0) ∧ (s.busByte 0xFF49 = s.ppu.obp1) ∧ (s.busByte 0xFF4A = s.ppu.wy) ∧
    (s.busByte 0xFF4B = s.ppu.wx) ∧ (s.busByte 0xFF50 = 0xFF) ∧
    (s.busByte 0xFFFF = BitVec.ofNat 8 (224 * u + s.irq.ie.toNat))

/-- R41, R81, R317, R330: the write column. Addresses and fields are the spec's general knowledge (log 22). -/
def Obligations.RegisterWrites : Prop :=
  ∀ (s : State) (v : Byte),
    (s.busWrite 0xFF00 v = s.setJoypad { s.joypad with sel := v.extractLsb' 4 2 }) ∧
    (s.busWrite 0xFF01 v = s.setSerial { s.serial with sb := v }) ∧
    (s.busWrite 0xFF02 v = s.setSerial { s.serial with scStart := v.getLsbD 7, scClock := v.getLsbD 0 }) ∧
    (s.busWrite 0xFF04 v = s.setTimer { s.timer with counter := 0 }) ∧
    (s.busWrite 0xFF05 v = s.setTimer { s.timer with tima := v }) ∧
    (s.busWrite 0xFF06 v = s.setTimer { s.timer with tma := v }) ∧
    (s.busWrite 0xFF07 v = s.setTimer { s.timer with tac := v.extractLsb' 0 3 }) ∧
    (s.busWrite 0xFF0F v = s.setIrq { s.irq with if_ := v.extractLsb' 0 5 }) ∧
    (s.busWrite 0xFF40 v = s.setPpu { s.ppu with lcdc := v }) ∧
    (s.busWrite 0xFF41 v = s.setPpu { s.ppu with statEn := v.extractLsb' 3 4 }) ∧
    (s.busWrite 0xFF42 v = s.setPpu { s.ppu with scy := v }) ∧
    (s.busWrite 0xFF43 v = s.setPpu { s.ppu with scx := v }) ∧
    (s.busWrite 0xFF44 v = s) ∧
    (s.busWrite 0xFF45 v = s.setPpu { s.ppu with lyc := v }) ∧
    (s.busWrite 0xFF46 v = if s.dma.active = true then s else s.setDma { src := v, off := 0, active := true }) ∧
    (s.busWrite 0xFF47 v = s.setPpu { s.ppu with bgp := v }) ∧
    (s.busWrite 0xFF48 v = s.setPpu { s.ppu with obp0 := v }) ∧
    (s.busWrite 0xFF49 v = s.setPpu { s.ppu with obp1 := v }) ∧
    (s.busWrite 0xFF4A v = s.setPpu { s.ppu with wy := v }) ∧
    (s.busWrite 0xFF4B v = s.setPpu { s.ppu with wx := v }) ∧
    (s.busWrite 0xFF50 v = s.setBootActive false) ∧
    (s.busWrite 0xFFFF v = s.setIrq { s.irq with ie := v.extractLsb' 0 5 })

/-! The peripherals. -/

/-- R311: the counter first, then the test on its new value; the reload and the interrupt in the tick of the overflow. -/
def Obligations.TimerTickRule : Prop :=
  ∀ (s : State),
    let n := s.timer.counter + 1
    let mask : Nat := [255, 3, 15, 63].getD (s.timer.tac.toNat % 4) 0
    let due := 4 ≤ s.timer.tac.toNat ∧ n.toNat % (mask + 1) = 0
    (¬ due → timerTick s = s.setTimer { s.timer with counter := n }) ∧
    (due → s.timer.tima ≠ 0xFF → timerTick s = s.setTimer { s.timer with counter := n, tima := s.timer.tima + 1 }) ∧
    (due → s.timer.tima = 0xFF →
      timerTick s = (s.setTimer { s.timer with counter := n, tima := s.timer.tma }).setIrq
        { s.irq with if_ := s.irq.if_ ||| 0b00100 })

/-- R312, R61: over any `mask + 1` ticks an enabled timer counts once, and DIV counts once in 64. R312 is the spec's own inference
from R311. -/
def Obligations.TimerPeriod : Prop :=
  ∀ (s : State), s.dmaSafe = true → 4 ≤ s.timer.tac.toNat →
    let mask : Nat := [255, 3, 15, 63].getD (s.timer.tac.toNat % 4) 0
    ((s.ticks (mask + 1)).timer.tima = if s.timer.tima = 0xFF then s.timer.tma else s.timer.tima + 1) ∧
    (s.timer.tima = 0xFF → (s.ticks (mask + 1)).irq.if_.getLsbD 2 = true) ∧
    ((s.ticks 64).busByte 0xFF04 = s.busByte 0xFF04 + 1)

/-- R318, R319: a transfer from a page below `0xE0` of plain memory. After 160 ticks `oam` holds the page's first 160 bytes and
nothing else of memory has changed; the flag falls in tick 161. The end in call 161 and the source map are the spec's decisions
D18 and D17. -/
def Obligations.DmaTransfer : Prop :=
  ∀ (s : State) (page : Byte), page.toNat < 0xE0 → s.dma = { src := page, off := 0, active := true } →
    (∀ i : Nat, i < 160 → (s.ticks 160).mem.read (BitVec.ofNat 16 (0xFE00 + i)) = s.busByte (word page (BitVec.ofNat 8 i))) ∧
    (∀ a : Word, a.toNat < 0xFE00 ∨ 0xFEA0 ≤ a.toNat → (s.ticks 160).mem.read a = s.mem.read a) ∧
    (s.ticks 160).dma = { src := page, off := 160, active := true } ∧
    (s.ticks 161).dma.active = false ∧ (s.ticks 161).fault = s.fault

/-- R318, R292: a transfer from an unsupported page raises in its first tick, with the address read and the registers of the
access whose tick it was. That the tick ends there is log 12. -/
def Obligations.DmaFromUnsupportedPage : Prop :=
  ∀ (s : State), s.dma.active = true → s.dma.off.toNat < 160 → s.params.unmappedPolicy = .fault →
    0xE0 ≤ s.dma.src.toNat → s.dma.src.toNat ≤ 0xFD →
    s.tick.fault = some (.unsupportedAddress (word s.dma.src s.dma.off) .read s.cpu.snapshot) ∧ s.tick.mem = s.mem

/-- R353, R354, R355, R357, R358, R359: with the power off nothing; else the count, and in the tick in which it reaches zero one
of the transitions, with the pending bits it raises. What the comparison does on inequality is the spec's decision D22. -/
def Obligations.PpuTickRule : Prop :=
  ∀ (s : State),
    let t := ppuTick s
    let lycRaise (line : Byte) : Bool := line == s.ppu.lyc && s.ppu.statEn.getLsbD 3
    let raised (vblank stat : Bool) : BitVec 5 := s.irq.if_ ||| (if vblank then 1 else 0) ||| (if stat then 2 else 0)
    (s.ppu.lcdc.getLsbD 7 = false → t = s) ∧
    (s.ppu.lcdc.getLsbD 7 = true → 2 ≤ s.ppu.modeCtr → t = s.setPpu { s.ppu with modeCtr := s.ppu.modeCtr - 1 }) ∧
    (s.ppu.lcdc.getLsbD 7 = true → s.ppu.modeCtr = 1 →
      (s.ppu.mode = .oamScan →
        t = s.setPpu { s.ppu with mode := .transfer, modeCtr := s.params.xferCycles }) ∧
      (s.ppu.mode = .transfer →
        t = ((renderLine s).setPpu { s.ppu with mode := .hblank, modeCtr := s.params.hblankCycles }).setIrq
          { s.irq with if_ := raised false (s.ppu.statEn.getLsbD 0) }) ∧
      (s.ppu.mode = .hblank → s.ppu.ly.toNat < 143 →
        t = (s.setPpu { s.ppu with
              ly := s.ppu.ly + 1, lycFlag := s.ppu.ly + 1 == s.ppu.lyc, mode := .oamScan, modeCtr := s.params.oamCycles }).setIrq
          { s.irq with if_ := raised false (lycRaise (s.ppu.ly + 1) || s.ppu.statEn.getLsbD 2) }) ∧
      (s.ppu.mode = .hblank → s.ppu.ly.toNat = 143 →
        t = ((s.setPpu { s.ppu with
              ly := 144, lycFlag := (144 : Byte) == s.ppu.lyc, mode := .vblank, modeCtr := s.params.vblankLineCycles }).setSink
            { s.sink with vsyncs := s.sink.vsyncs + 1 }).setIrq
          { s.irq with if_ := raised true (lycRaise 144 || s.ppu.statEn.getLsbD 1) }) ∧
      (s.ppu.mode = .vblank → s.ppu.ly.toNat + 1 < s.params.totalLines →
        t = (s.setPpu { s.ppu with
              ly := s.ppu.ly + 1, lycFlag := s.ppu.ly + 1 == s.ppu.lyc, modeCtr := s.params.vblankLineCycles }).setIrq
          { s.irq with if_ := raised false (lycRaise (s.ppu.ly + 1)) }) ∧
      (s.ppu.mode = .vblank → s.params.totalLines ≤ s.ppu.ly.toNat + 1 →
        t = (s.setPpu { s.ppu with
              ly := 0, lycFlag := (0 : Byte) == s.ppu.lyc, mode := .oamScan, modeCtr := s.params.oamCycles }).setIrq
          { s.irq with if_ := raised false (lycRaise 0 || s.ppu.statEn.getLsbD 2) }))

/-- R360: with the power on a visible line takes the three budgets together, after which the next line begins. R360 is the spec's
own inference from R352 and R353. -/
def Obligations.VisibleLineTiming : Prop :=
  ∀ (s : State), s.dmaSafe = true → s.params.timingOk = true → s.ppu.lcdc.getLsbD 7 = true →
    s.ppu.mode = .oamScan → s.ppu.modeCtr = s.params.oamCycles → s.ppu.ly.toNat < 143 →
    let t := s.ticks (s.params.oamCycles + s.params.xferCycles + s.params.hblankCycles)
    t.ppu.mode = .oamScan ∧ t.ppu.modeCtr = s.params.oamCycles ∧ t.ppu.ly = s.ppu.ly + 1 ∧ t.sink.vsyncs = s.sink.vsyncs

/-- R363, R364, R365, R366: one pixel of the background or the window, with the tile's bytes read from video memory. The window
test and the addressing base are the spec's decisions D25 and D26. -/
def Obligations.BackgroundPixel : Prop :=
  ∀ (s : State) (x : Nat), x < 160 →
    let l := s.ppu.lcdc
    let ly := s.ppu.ly.toNat
    let window := l.getLsbD 5 = true ∧ s.ppu.wy.toNat ≤ ly ∧ s.ppu.wx.toNat ≤ x + 7
    let vram (n : Nat) : Byte := s.mem.read (BitVec.ofNat 16 (0x8000 + n))
    let colour (second : Bool) (px py : Nat) : BitVec 2 :=
      let idx := (vram ((if second then 0x1C00 else 0x1800) + 32 * (py / 8) + px / 8)).toNat
      let tile := if l.getLsbD 4 then idx else if idx < 128 then 256 + idx else idx
      let low := vram (16 * tile + 2 * (py % 8))
      let high := vram (16 * tile + 2 * (py % 8) + 1)
      BitVec.ofNat 2 (2 * (high.getLsbD (7 - px % 8)).toNat + (low.getLsbD (7 - px % 8)).toNat)
    let paletted (ci : BitVec 2) : BitVec 2 × BitVec 2 := (ci, BitVec.ofNat 2 (s.ppu.bgp.toNat / 4 ^ ci.toNat))
    (l.getLsbD 0 = false → bgPixel s x = (0, 0)) ∧
    (l.getLsbD 0 = true → window →
      bgPixel s x = paletted (colour (l.getLsbD 6) (x + 7 - s.ppu.wx.toNat) (ly - s.ppu.wy.toNat))) ∧
    (l.getLsbD 0 = true → ¬ window →
      bgPixel s x = paletted (colour (l.getLsbD 3) ((x + s.ppu.scx.toNat) % 256) ((ly + s.ppu.scy.toNat) % 256)))

/-- R368, R369, R366: an entry's pixel shows where it is opaque and not behind the background, if no entry of a lower number has
such a pixel there; and where no entry has one the background shows. Which lines and pixels an entry covers is `SpritePixel`'s.
The order is the spec's decision D25. -/
def Obligations.SpritePriority : Prop :=
  ∀ (s : State) (x : Nat), s.ppu.lcdc.getLsbD 1 = true →
    let flags (n : Nat) : Byte := s.mem.read (BitVec.ofNat 16 (0xFE00 + 4 * n + 3))
    let shows (n : Nat) (ci : BitVec 2) : Prop :=
      spriteOnLine s n = true ∧ spritePixel s n x = some ci ∧ ci ≠ 0 ∧ ((flags n).getLsbD 7 = true → (bgPixel s x).1 = 0)
    (∀ (n : Nat) (ci : BitVec 2), n < 40 → shows n ci → (∀ m c, m < n → ¬ shows m c) →
      let palette := if (flags n).getLsbD 4 then s.ppu.obp1 else s.ppu.obp0
      pixelShade s x = BitVec.ofNat 2 (palette.toNat / 4 ^ ci.toNat)) ∧
    ((∀ m c, m < 40 → ¬ shows m c) → pixelShade s x = (bgPixel s x).2)

/-- R367, R368, R365: which lines an entry of `oam` meets, and the colour index it has at a screen column, from its four bytes and
the tile's bytes in video memory. The height is 8, or 16 with `lcdc` bit 2, where the tile byte's bit 0 is ignored and the lower
eight rows are the next tile; a flip is over the whole height or width. The flips' bits and the plane order are the spec's general
knowledge (log 22). -/
def Obligations.SpritePixel : Prop :=
  ∀ (s : State) (n x : Nat), n < 40 → x < 160 →
    let entry (k : Nat) : Byte := s.mem.read (BitVec.ofNat 16 (0xFE00 + 4 * n + k))
    let vram (k : Nat) : Byte := s.mem.read (BitVec.ofNat 16 (0x8000 + k))
    let tall := s.ppu.lcdc.getLsbD 2
    let h : Int := if tall then 16 else 8
    let ly : Int := s.ppu.ly.toNat
    let sy : Int := (entry 0).toNat - 16
    let cx : Int := x - ((entry 1).toNat - 8 : Int)
    let row := (if (entry 3).getLsbD 6 then h - 1 - (ly - sy) else ly - sy).toNat
    let c := (if (entry 3).getLsbD 5 then 7 - cx else cx).toNat
    let t := if tall then (entry 2).toNat / 2 * 2 + row / 8 else (entry 2).toNat
    let low := vram (16 * t + 2 * (row % 8))
    let high := vram (16 * t + 2 * (row % 8) + 1)
    (spriteOnLine s n = true ↔ sy ≤ ly ∧ ly < sy + h) ∧
    (¬ (0 ≤ cx ∧ cx < 8) → spritePixel s n x = none) ∧
    (sy ≤ ly → ly < sy + h → 0 ≤ cx → cx < 8 →
      spritePixel s n x = some (BitVec.ofNat 2 (2 * (high.getLsbD (7 - c)).toNat + (low.getLsbD (7 - c)).toNat)))

/-- R362, R372: a line is drawn in one tick; the host then sees every pixel of it, the other lines are as they were, and no
machine state changes. The framebuffer's form is log 16. -/
def Obligations.RenderLineDraws : Prop :=
  ∀ (s : State) (x : Nat), x < 160 →
    (renderLine s).pixel x s.ppu.ly.toNat = pixelShade s x ∧
    (∀ y : Nat, y ≠ s.ppu.ly.toNat → (renderLine s).pixel x y = s.pixel x y) ∧
    (renderLine s).setSink s.sink = s

/-! Interrupts and the step. -/

/-- R283, R284, R286: the acknowledge takes the least numbered source that is enabled and pending, clears that one bit, and
answers its address; with none it answers none. The address is R284's, the spec's decision D7 (log 22). -/
def Obligations.AcknowledgePriority : Prop :=
  ∀ (s : State),
    ((∀ j : Nat, j < 5 → (s.irq.ie.getLsbD j && s.irq.if_.getLsbD j) = false) → ackInterrupt s = none) ∧
    (∀ i : Nat, i < 5 → s.irq.ie.getLsbD i = true → s.irq.if_.getLsbD i = true →
      (∀ j : Nat, j < i → (s.irq.ie.getLsbD j && s.irq.if_.getLsbD j) = false) →
      ackInterrupt s = some (BitVec.ofNat 16 (0x40 + 8 * i),
        s.setIrq { s.irq with if_ := s.irq.if_ &&& ~~~ (BitVec.twoPow 5 i) }))

/-- R270 phase (a), R285, R288: a step of an enabled machine with a request is its service: one pending bit and the enables are
cleared, a halt ends, `pc` is pushed, and control goes to the source's address. The address and the order of the writes are the
spec's decisions D7 and D6. -/
def Obligations.InterruptService : Prop :=
  ∀ (s : State) (i : Nat), s.params.acceptable = true → s.fault = none → s.cpu.stopped = false → s.cpu.ime = true →
    i < 5 → s.irq.ie.getLsbD i = true → s.irq.if_.getLsbD i = true →
    (∀ j : Nat, j < i → (s.irq.ie.getLsbD j && s.irq.if_.getLsbD j) = false) →
    s.dmaSafe = true → s.supported (s.cpu.sp - 2) = true → s.supported (s.cpu.sp - 1) = true →
    let t := ((((s.setIrq { s.irq with if_ := s.irq.if_ &&& ~~~ (BitVec.twoPow 5 i) }).setIme false).setEiPending
      false).setHalted false).setSp (s.cpu.sp - 2)
    (t.tick.busWrite (s.cpu.sp - 2) (lo s.cpu.pc)).dmaSafe = true →
    step s = .next (((t.tick.busWrite (s.cpu.sp - 2) (lo s.cpu.pc)).tick.busWrite (s.cpu.sp - 1) (hi s.cpu.pc)).setPc
      (BitVec.ofNat 16 (0x40 + 8 * i)))

/-- R270 phases (b) to (d), R105, R265: a step that services nothing and does not idle commits a queued enable, ends a halt, and
runs the instruction whose bytes it reads at `pc`, one tick before each byte. Phase (c) and the guard are the spec's decisions D8
and D9. -/
def Obligations.StepRunsDecoded : Prop :=
  ∀ (s : State) (i : Instr) (b0 b1 b2 : Byte) (rest : List Byte),
    s.params.acceptable = true → s.fault = none → s.cpu.stopped = false →
    (s.cpu.ime = true → s.irq.ie &&& s.irq.if_ = 0) →
    (s.cpu.halted = true → s.irq.ie &&& s.irq.if_ ≠ 0) →
    s.dmaSafe = true →
    let u := s.setCpu { s.cpu with ime := s.cpu.ime || s.cpu.eiPending, eiPending := false, halted := false }
    let n := 3 - rest.length
    decode [b0, b1, b2] = .ok (i, rest) →
    (∀ k : Nat, k < n → s.supported (s.cpu.pc + BitVec.ofNat 16 k) = true ∧
      (u.ticks (k + 1)).busByte (s.cpu.pc + BitVec.ofNat 16 k) = [b0, b1, b2].getD k 0) →
    step s = exec i ((u.ticks n).setPc (s.cpu.pc + BitVec.ofNat 16 n))

/-- R28, R262, R290, R270 phase (0): a faulted or stopped machine makes no step. R261, R270 phase (c): a halted machine with no
enabled request makes one tick and nothing else. These are the spec's decisions D8, D9 and D33. -/
def Obligations.SleepAndIdleSteps : Prop :=
  ∀ (s : State), s.params.acceptable = true →
    ((s.fault ≠ none ∨ s.cpu.stopped = true) → step s = .next s) ∧
    (s.fault = none → s.cpu.stopped = false → s.cpu.halted = true → s.irq.ie &&& s.irq.if_ = 0 →
      step s = .next (s.setCpu { s.cpu with ime := s.cpu.ime || s.cpu.eiPending, eiPending := false }).tick)

/-- R326: the button events. The wake and the interrupt are the spec's decisions D9 and D27; that the host applies the events
between steps is log 17. -/
def Obligations.ButtonEvents : Prop :=
  ∀ (s : State) (k : Button),
    (s.joypad.pressed.getLsbD k.bit = true → buttonDown k s = s.setStopped false) ∧
    (s.joypad.pressed.getLsbD k.bit = false →
      buttonDown k s = ((s.setStopped false).setJoypad
        { s.joypad with pressed := s.joypad.pressed ||| BitVec.twoPow 8 k.bit }).setIrq
          { s.irq with if_ := s.irq.if_ ||| 0b10000 }) ∧
    (∀ j : Nat, j < 8 →
      (buttonUp k s).joypad.pressed.getLsbD j = (s.joypad.pressed.getLsbD j && decide (j ≠ k.bit))) ∧
    (buttonUp k s).irq = s.irq ∧ (buttonUp k s).joypad.sel = s.joypad.sel ∧ (buttonUp k s).setJoypad s.joypad = s

/-- R401, R264: `EI` takes effect one instruction late. It leaves the enable as it was; the next step runs one instruction whatever is
enabled and pending, with the enable now set. -/
def Obligations.EnableIsDelayed : Prop :=
  ∀ (s : State), s.params.acceptable = true → s.fault = none → s.cpu.stopped = false → s.cpu.halted = false →
    s.cpu.ime = false →
    ∃ t, exec .ei s = .next t ∧ t.cpu.ime = false ∧
      step t = (match fetch (s.setCpu { s.cpu with ime := true, eiPending := false }) with
        | .raised u => .next u
        | .done i u => exec i u)

/-! The machine as a whole. -/

/-- R33, R31, R372: every step keeps the invariant. The forms of memory and framebuffer are logs 4 and 16. -/
def Obligations.StepKeepsInvariant : Prop := ∀ (s t : State), Inv s → step s = .next t → Inv t

/-- R44: it holds at reset. The reset values are the spec's own choice (log 5), the parameters log 2. -/
def Obligations.ResetMeetsInvariant : Prop := Inv State.reset

/-- R69, R36, R37, R6: whatever a step runs, it changes no byte of the ROM image, never sets the boot latch, and leaves the held
buttons and the parameters alone. -/
def Obligations.StepRespectsRom : Prop :=
  ∀ (s t : State), step s = .next t →
    (∀ a : Word, a.toNat < 0x8000 → t.mem.read a = s.mem.read a) ∧
    (t.bootActive = true → s.bootActive = true) ∧ t.joypad.pressed = s.joypad.pressed ∧ t.params = s.params

/-- R61, R280, R328: a tick touches no register of the CPU, joypad, serial port or boot latch, and no mask; of the pending bits it
clears none and raises at most vblank, video-STAT and timer. -/
def Obligations.TickFrame : Prop :=
  ∀ (s : State), s.tick.irq.ie = s.irq.ie ∧
    (∀ k : Nat, k < 5 → s.irq.if_.getLsbD k = true → s.tick.irq.if_.getLsbD k = true) ∧
    s.tick.irq.if_.getLsbD 3 = s.irq.if_.getLsbD 3 ∧ s.tick.irq.if_.getLsbD 4 = s.irq.if_.getLsbD 4 ∧
    s.tick.cpu = s.cpu ∧ s.tick.serial = s.serial ∧ s.tick.joypad = s.joypad ∧ s.tick.bootActive = s.bootActive ∧
    s.tick.params = s.params

/-- R44, R390: reset, in both profiles, from any state. The values are the spec's own choice (D31, D32, log 5); that the ROM image
stays is log 18. -/
def Obligations.ResetValues : Prop :=
  ∀ (s : State),
    let t := hostReset s
    let boot := s.params.resetProfile = .boot
    (boot → t.cpu = { a := 0, b := 0, c := 0, d := 0, e := 0, h := 0, l := 0, flags := ⟨false, false, false, false⟩,
                      sp := 0, pc := 0, ime := false, eiPending := false, halted := false, stopped := false } ∧
      t.ppu.lcdc = 0 ∧ t.ppu.bgp = 0 ∧ t.bootActive = true) ∧
    (¬ boot → t.cpu = { a := 0x01, b := 0x00, c := 0x13, d := 0x00, e := 0xD8, h := 0x01, l := 0x4D,
                        flags := ⟨true, false, true, true⟩, sp := 0xFFFE, pc := 0x0100,
                        ime := false, eiPending := false, halted := false, stopped := false } ∧
      t.ppu.lcdc = 0x91 ∧ t.ppu.bgp = 0xFC ∧ t.bootActive = false) ∧
    t.fault = none ∧ t.irq = ⟨0, 0⟩ ∧ t.timer = ⟨0, 0, 0, 0⟩ ∧ t.dma = ⟨0, 0, false⟩ ∧
    t.ppu.statEn = 0 ∧ t.ppu.lycFlag = false ∧ t.ppu.mode = .oamScan ∧ t.ppu.modeCtr = s.params.oamCycles ∧
    t.ppu.ly = 0 ∧ t.ppu.lyc = 0 ∧ t.ppu.scy = 0 ∧ t.ppu.scx = 0 ∧ t.ppu.wy = 0 ∧ t.ppu.wx = 0 ∧
    t.ppu.obp0 = 0 ∧ t.ppu.obp1 = 0 ∧ t.joypad = ⟨0, 0b11⟩ ∧ t.serial = ⟨0, false, false⟩ ∧ t.sink.vsyncs = 0 ∧
    t.params = s.params ∧
    (s.params.ramInit = [] → ∀ a : Word,
      t.mem.read a = if a.toNat < 0x8000 then s.mem.read a else 0)
end

