-- ==== Sys2Proof/Laws/Memory.lean ====
section
/-! SUPPORT. The laws of memory: a read after a write, and the canonical form that every operation keeps. -/

namespace Sys2Proof.Machine

theorem Memory.lookup_filter_other (m : Memory) {a b : Nat} (h : b ≠ a) :
    Memory.lookup (m.filter fun c => c.1 ≠ a) b = Memory.lookup m b := by
  induction m with
  | nil => rfl
  | cons c m ih =>
    obtain ⟨x, w⟩ := c
    by_cases hx : x = a
    · subst hx
      simp only [Memory.lookup, if_neg (Ne.symm h)]
      simpa using ih
    · rw [List.filter_cons_of_pos (by simpa using hx)]
      simp only [Memory.lookup, ih]

theorem Memory.lookup_filter_same (m : Memory) (a : Nat) :
    Memory.lookup (m.filter fun c => c.1 ≠ a) a = unlisted a := by
  induction m with
  | nil => rfl
  | cons c m ih =>
    obtain ⟨x, w⟩ := c
    by_cases hx : x = a
    · subst hx; simpa using ih
    · rw [List.filter_cons_of_pos (by simpa using hx)]
      simpa only [Memory.lookup, if_neg hx] using ih

theorem Memory.lookup_insert_same (m : Memory) (a : Nat) (v : Byte) (h : ∀ c ∈ m, c.1 ≠ a) :
    Memory.lookup (Memory.insert m a v) a = v := by
  induction m with
  | nil => simp [Memory.insert, Memory.lookup]
  | cons c m ih =>
    obtain ⟨x, w⟩ := c
    simp only [Memory.insert]
    split
    · simp [Memory.lookup]
    · have hx : x ≠ a := h (x, w) (by simp)
      simp only [Memory.lookup, if_neg hx]
      exact ih fun c hc => h c (by simp [hc])

theorem Memory.lookup_insert_other (m : Memory) {a b : Nat} (v : Byte) (h : b ≠ a) :
    Memory.lookup (Memory.insert m a v) b = Memory.lookup m b := by
  induction m with
  | nil => simp [Memory.insert, Memory.lookup, Ne.symm h]
  | cons c m ih =>
    obtain ⟨x, w⟩ := c
    simp only [Memory.insert]
    split
    · simp [Memory.lookup, Ne.symm h]
    · simp only [Memory.lookup, ih]

theorem Memory.lookup_store_same (m : Memory) (a : Nat) (v : Byte) : Memory.lookup (Memory.store m a v) a = v := by
  unfold Memory.store
  split
  · next h => rw [Memory.lookup_filter_same, h]
  · exact Memory.lookup_insert_same _ _ _ fun c hc => by simpa using (List.mem_filter.mp hc).2

theorem Memory.lookup_store_other (m : Memory) {a b : Nat} (v : Byte) (h : b ≠ a) :
    Memory.lookup (Memory.store m a v) b = Memory.lookup m b := by
  unfold Memory.store
  split
  · exact Memory.lookup_filter_other m h
  · rw [Memory.lookup_insert_other _ _ h, Memory.lookup_filter_other m h]

/-- A read after a write to the same address gives the value written. -/
@[simp] theorem Memory.read_write_same (m : Memory) (a : Word) (v : Byte) : (m.write a v).read a = v :=
  Memory.lookup_store_same m a.toNat v

/-- A write leaves every other address alone. -/
theorem Memory.read_write_other (m : Memory) {a b : Word} (v : Byte) (h : b ≠ a) : (m.write a v).read b = m.read b :=
  Memory.lookup_store_other m v fun e => h (BitVec.eq_of_toNat_eq e)

theorem Memory.wfFrom_mono {m : Memory} {i j : Nat} (h : Memory.wfFrom j m = true) (hij : i ≤ j) :
    Memory.wfFrom i m = true := by
  cases m with
  | nil => rfl
  | cons c m =>
    obtain ⟨x, w⟩ := c
    simp only [Memory.wfFrom, Bool.and_eq_true, decide_eq_true_eq] at h ⊢
    exact ⟨⟨by omega, h.1.2⟩, h.2⟩

theorem Memory.wfFrom_filter {m : Memory} {i : Nat} (p : Host.Cell → Bool) (h : Memory.wfFrom i m = true) :
    Memory.wfFrom i (m.filter p) = true := by
  induction m generalizing i with
  | nil => rfl
  | cons c m ih =>
    obtain ⟨x, w⟩ := c
    simp only [Memory.wfFrom, Bool.and_eq_true, decide_eq_true_eq] at h
    by_cases hp : p (x, w) = true
    · rw [List.filter_cons_of_pos hp]
      simp only [Memory.wfFrom, Bool.and_eq_true, decide_eq_true_eq]
      exact ⟨h.1, ih h.2⟩
    · rw [List.filter_cons_of_neg hp]
      exact Memory.wfFrom_mono (ih h.2) (by omega)

theorem Memory.wfFrom_insert {m : Memory} {i a : Nat} {v : Byte} (h : Memory.wfFrom i m = true) (hi : i ≤ a)
    (ha : a < 0x10000) (hv : v ≠ unlisted a) (hn : ∀ c ∈ m, c.1 ≠ a) :
    Memory.wfFrom i (Memory.insert m a v) = true := by
  induction m generalizing i with
  | nil => simp [Memory.insert, Memory.wfFrom, hi, ha, hv]
  | cons c m ih =>
    obtain ⟨x, w⟩ := c
    simp only [Memory.wfFrom, Bool.and_eq_true, decide_eq_true_eq] at h
    have hx : x ≠ a := hn (x, w) (by simp)
    simp only [Memory.insert]
    split
    · simp only [Memory.wfFrom, Bool.and_eq_true, decide_eq_true_eq]
      exact ⟨⟨hi, ha, hv⟩, ⟨by omega, h.1.2⟩, h.2⟩
    · simp only [Memory.wfFrom, Bool.and_eq_true, decide_eq_true_eq]
      exact ⟨h.1, ih h.2 (by omega) fun c hc => hn c (by simp [hc])⟩

theorem Memory.wf_store {m : Memory} (h : m.wf = true) {a : Nat} (ha : a < 0x10000) (v : Byte) :
    (Memory.store m a v).wf = true := by
  unfold Memory.store
  split
  · exact Memory.wfFrom_filter _ h
  · next hv =>
    exact Memory.wfFrom_insert (Memory.wfFrom_filter _ h) (Nat.zero_le _) ha hv
      fun c hc => by simpa using (List.mem_filter.mp hc).2

/-- A write keeps the canonical form. -/
theorem Memory.wf_write {m : Memory} (h : m.wf = true) (a : Word) (v : Byte) : (m.write a v).wf = true :=
  Memory.wf_store h a.isLt v

/-- So does reset. -/
theorem Memory.wf_reset {m : Memory} (h : m.wf = true) (init : List Host.Cell) : (Memory.reset m init).wf = true := by
  unfold Memory.reset
  generalize hm : m.filter _ = rom
  have hrom : Memory.wf rom = true := hm ▸ Memory.wfFrom_filter _ h
  clear hm
  induction init generalizing rom with
  | nil => exact hrom
  | cons c init ih =>
    rw [List.foldl_cons]
    apply ih
    split
    · next hc => exact Memory.wf_store hrom (by simp [isRam] at hc; omega) _
    · exact hrom

end Sys2Proof.Machine
end

