-- ==== Sys2Proof/Laws/Region.lean ====
section
/-! SUPPORT. The address ranges of the regions of R66, read both ways. -/

namespace Sys2Proof.Machine

/-- Cartridge ROM, bank 0 (R69). -/
theorem regionOf_bank0 (a : Word) : regionOf a = .bank0 ↔ a.toNat < 0x4000 := by
  unfold regionOf
  generalize a.toNat = n
  grind (splits := 20)

/-- Cartridge ROM, the switchable bank (R69). -/
theorem regionOf_bank1 (a : Word) : regionOf a = .bank1 ↔ 0x4000 ≤ a.toNat ∧ a.toNat < 0x8000 := by
  unfold regionOf
  generalize a.toNat = n
  grind (splits := 20)

/-- Video memory (R70). -/
theorem regionOf_vram (a : Word) : regionOf a = .vram ↔ 0x8000 ≤ a.toNat ∧ a.toNat < 0xA000 := by
  unfold regionOf
  generalize a.toNat = n
  grind (splits := 20)

/-- Cartridge RAM (R71). -/
theorem regionOf_cartRam (a : Word) : regionOf a = .cartRam ↔ 0xA000 ≤ a.toNat ∧ a.toNat < 0xC000 := by
  unfold regionOf
  generalize a.toNat = n
  grind (splits := 20)

/-- Work RAM (R72). -/
theorem regionOf_wram (a : Word) : regionOf a = .wram ↔ 0xC000 ≤ a.toNat ∧ a.toNat < 0xE000 := by
  unfold regionOf
  generalize a.toNat = n
  grind (splits := 20)

/-- The unsupported addresses (R74). -/
theorem regionOf_unsupported (a : Word) : regionOf a = .unsupported ↔ (0xE000 ≤ a.toNat ∧ a.toNat < 0xFE00) ∨ (0xFEA0 ≤ a.toNat ∧ a.toNat < 0xFF00) := by
  unfold regionOf
  generalize a.toNat = n
  grind (splits := 20)

/-- Sprite attributes (R73). -/
theorem regionOf_oam (a : Word) : regionOf a = .oam ↔ 0xFE00 ≤ a.toNat ∧ a.toNat < 0xFEA0 := by
  unfold regionOf
  generalize a.toNat = n
  grind (splits := 20)

/-- The I/O registers and IE (R75, R77). -/
theorem regionOf_io (a : Word) : regionOf a = .io ↔ (0xFF00 ≤ a.toNat ∧ a.toNat < 0xFF80) ∨ 0xFFFF ≤ a.toNat := by
  unfold regionOf
  generalize a.toNat = n
  grind (splits := 20)

/-- High RAM (R77). -/
theorem regionOf_hram (a : Word) : regionOf a = .hram ↔ 0xFF80 ≤ a.toNat ∧ a.toNat < 0xFFFF := by
  unfold regionOf
  generalize a.toNat = n
  grind (splits := 20)

/-- The regions that memory holds: the four RAMs. -/
theorem isRam_of_region {a : Word}
    (h : regionOf a = .vram ∨ regionOf a = .wram ∨ regionOf a = .oam ∨ regionOf a = .hram) :
    isRam a.toNat = true := by
  rw [regionOf_vram, regionOf_wram, regionOf_oam, regionOf_hram] at h
  simp only [isRam, Bool.or_eq_true, decide_eq_true_eq]
  omega

end Sys2Proof.Machine
end

