-- ==== Sys2Proof/Laws/State.lean ====
section
/-! SUPPORT. What each update of the state leaves alone and what it gives, one lemma per field per update, so that no proof
unfolds a record update. -/

namespace Sys2Proof.Machine

variable (s : State)

/-! One unit replaced: that unit, and the others. -/

@[simp] theorem State.setCpu_cpu (x : Cpu) : (s.setCpu x).cpu = x := rfl
@[simp] theorem State.setCpu_irq (x : Cpu) : (s.setCpu x).irq = s.irq := rfl
@[simp] theorem State.setCpu_timer (x : Cpu) : (s.setCpu x).timer = s.timer := rfl
@[simp] theorem State.setCpu_dma (x : Cpu) : (s.setCpu x).dma = s.dma := rfl
@[simp] theorem State.setCpu_ppu (x : Cpu) : (s.setCpu x).ppu = s.ppu := rfl
@[simp] theorem State.setCpu_joypad (x : Cpu) : (s.setCpu x).joypad = s.joypad := rfl
@[simp] theorem State.setCpu_serial (x : Cpu) : (s.setCpu x).serial = s.serial := rfl
@[simp] theorem State.setCpu_bootActive (x : Cpu) : (s.setCpu x).bootActive = s.bootActive := rfl
@[simp] theorem State.setCpu_cart (x : Cpu) : (s.setCpu x).cart = s.cart := rfl
@[simp] theorem State.setCpu_mem (x : Cpu) : (s.setCpu x).mem = s.mem := rfl
@[simp] theorem State.setCpu_sink (x : Cpu) : (s.setCpu x).sink = s.sink := rfl
@[simp] theorem State.setCpu_fault (x : Cpu) : (s.setCpu x).fault = s.fault := rfl
@[simp] theorem State.setCpu_params (x : Cpu) : (s.setCpu x).params = s.params := rfl

@[simp] theorem State.setIrq_cpu (x : Irq) : (s.setIrq x).cpu = s.cpu := rfl
@[simp] theorem State.setIrq_irq (x : Irq) : (s.setIrq x).irq = x := rfl
@[simp] theorem State.setIrq_timer (x : Irq) : (s.setIrq x).timer = s.timer := rfl
@[simp] theorem State.setIrq_dma (x : Irq) : (s.setIrq x).dma = s.dma := rfl
@[simp] theorem State.setIrq_ppu (x : Irq) : (s.setIrq x).ppu = s.ppu := rfl
@[simp] theorem State.setIrq_joypad (x : Irq) : (s.setIrq x).joypad = s.joypad := rfl
@[simp] theorem State.setIrq_serial (x : Irq) : (s.setIrq x).serial = s.serial := rfl
@[simp] theorem State.setIrq_bootActive (x : Irq) : (s.setIrq x).bootActive = s.bootActive := rfl
@[simp] theorem State.setIrq_cart (x : Irq) : (s.setIrq x).cart = s.cart := rfl
@[simp] theorem State.setIrq_mem (x : Irq) : (s.setIrq x).mem = s.mem := rfl
@[simp] theorem State.setIrq_sink (x : Irq) : (s.setIrq x).sink = s.sink := rfl
@[simp] theorem State.setIrq_fault (x : Irq) : (s.setIrq x).fault = s.fault := rfl
@[simp] theorem State.setIrq_params (x : Irq) : (s.setIrq x).params = s.params := rfl

@[simp] theorem State.setTimer_cpu (x : Timer) : (s.setTimer x).cpu = s.cpu := rfl
@[simp] theorem State.setTimer_irq (x : Timer) : (s.setTimer x).irq = s.irq := rfl
@[simp] theorem State.setTimer_timer (x : Timer) : (s.setTimer x).timer = x := rfl
@[simp] theorem State.setTimer_dma (x : Timer) : (s.setTimer x).dma = s.dma := rfl
@[simp] theorem State.setTimer_ppu (x : Timer) : (s.setTimer x).ppu = s.ppu := rfl
@[simp] theorem State.setTimer_joypad (x : Timer) : (s.setTimer x).joypad = s.joypad := rfl
@[simp] theorem State.setTimer_serial (x : Timer) : (s.setTimer x).serial = s.serial := rfl
@[simp] theorem State.setTimer_bootActive (x : Timer) : (s.setTimer x).bootActive = s.bootActive := rfl
@[simp] theorem State.setTimer_cart (x : Timer) : (s.setTimer x).cart = s.cart := rfl
@[simp] theorem State.setTimer_mem (x : Timer) : (s.setTimer x).mem = s.mem := rfl
@[simp] theorem State.setTimer_sink (x : Timer) : (s.setTimer x).sink = s.sink := rfl
@[simp] theorem State.setTimer_fault (x : Timer) : (s.setTimer x).fault = s.fault := rfl
@[simp] theorem State.setTimer_params (x : Timer) : (s.setTimer x).params = s.params := rfl

@[simp] theorem State.setDma_cpu (x : Dma) : (s.setDma x).cpu = s.cpu := rfl
@[simp] theorem State.setDma_irq (x : Dma) : (s.setDma x).irq = s.irq := rfl
@[simp] theorem State.setDma_timer (x : Dma) : (s.setDma x).timer = s.timer := rfl
@[simp] theorem State.setDma_dma (x : Dma) : (s.setDma x).dma = x := rfl
@[simp] theorem State.setDma_ppu (x : Dma) : (s.setDma x).ppu = s.ppu := rfl
@[simp] theorem State.setDma_joypad (x : Dma) : (s.setDma x).joypad = s.joypad := rfl
@[simp] theorem State.setDma_serial (x : Dma) : (s.setDma x).serial = s.serial := rfl
@[simp] theorem State.setDma_bootActive (x : Dma) : (s.setDma x).bootActive = s.bootActive := rfl
@[simp] theorem State.setDma_cart (x : Dma) : (s.setDma x).cart = s.cart := rfl
@[simp] theorem State.setDma_mem (x : Dma) : (s.setDma x).mem = s.mem := rfl
@[simp] theorem State.setDma_sink (x : Dma) : (s.setDma x).sink = s.sink := rfl
@[simp] theorem State.setDma_fault (x : Dma) : (s.setDma x).fault = s.fault := rfl
@[simp] theorem State.setDma_params (x : Dma) : (s.setDma x).params = s.params := rfl

@[simp] theorem State.setPpu_cpu (x : Ppu) : (s.setPpu x).cpu = s.cpu := rfl
@[simp] theorem State.setPpu_irq (x : Ppu) : (s.setPpu x).irq = s.irq := rfl
@[simp] theorem State.setPpu_timer (x : Ppu) : (s.setPpu x).timer = s.timer := rfl
@[simp] theorem State.setPpu_dma (x : Ppu) : (s.setPpu x).dma = s.dma := rfl
@[simp] theorem State.setPpu_ppu (x : Ppu) : (s.setPpu x).ppu = x := rfl
@[simp] theorem State.setPpu_joypad (x : Ppu) : (s.setPpu x).joypad = s.joypad := rfl
@[simp] theorem State.setPpu_serial (x : Ppu) : (s.setPpu x).serial = s.serial := rfl
@[simp] theorem State.setPpu_bootActive (x : Ppu) : (s.setPpu x).bootActive = s.bootActive := rfl
@[simp] theorem State.setPpu_cart (x : Ppu) : (s.setPpu x).cart = s.cart := rfl
@[simp] theorem State.setPpu_mem (x : Ppu) : (s.setPpu x).mem = s.mem := rfl
@[simp] theorem State.setPpu_sink (x : Ppu) : (s.setPpu x).sink = s.sink := rfl
@[simp] theorem State.setPpu_fault (x : Ppu) : (s.setPpu x).fault = s.fault := rfl
@[simp] theorem State.setPpu_params (x : Ppu) : (s.setPpu x).params = s.params := rfl

@[simp] theorem State.setJoypad_cpu (x : Joypad) : (s.setJoypad x).cpu = s.cpu := rfl
@[simp] theorem State.setJoypad_irq (x : Joypad) : (s.setJoypad x).irq = s.irq := rfl
@[simp] theorem State.setJoypad_timer (x : Joypad) : (s.setJoypad x).timer = s.timer := rfl
@[simp] theorem State.setJoypad_dma (x : Joypad) : (s.setJoypad x).dma = s.dma := rfl
@[simp] theorem State.setJoypad_ppu (x : Joypad) : (s.setJoypad x).ppu = s.ppu := rfl
@[simp] theorem State.setJoypad_joypad (x : Joypad) : (s.setJoypad x).joypad = x := rfl
@[simp] theorem State.setJoypad_serial (x : Joypad) : (s.setJoypad x).serial = s.serial := rfl
@[simp] theorem State.setJoypad_bootActive (x : Joypad) : (s.setJoypad x).bootActive = s.bootActive := rfl
@[simp] theorem State.setJoypad_cart (x : Joypad) : (s.setJoypad x).cart = s.cart := rfl
@[simp] theorem State.setJoypad_mem (x : Joypad) : (s.setJoypad x).mem = s.mem := rfl
@[simp] theorem State.setJoypad_sink (x : Joypad) : (s.setJoypad x).sink = s.sink := rfl
@[simp] theorem State.setJoypad_fault (x : Joypad) : (s.setJoypad x).fault = s.fault := rfl
@[simp] theorem State.setJoypad_params (x : Joypad) : (s.setJoypad x).params = s.params := rfl

@[simp] theorem State.setSerial_cpu (x : Serial) : (s.setSerial x).cpu = s.cpu := rfl
@[simp] theorem State.setSerial_irq (x : Serial) : (s.setSerial x).irq = s.irq := rfl
@[simp] theorem State.setSerial_timer (x : Serial) : (s.setSerial x).timer = s.timer := rfl
@[simp] theorem State.setSerial_dma (x : Serial) : (s.setSerial x).dma = s.dma := rfl
@[simp] theorem State.setSerial_ppu (x : Serial) : (s.setSerial x).ppu = s.ppu := rfl
@[simp] theorem State.setSerial_joypad (x : Serial) : (s.setSerial x).joypad = s.joypad := rfl
@[simp] theorem State.setSerial_serial (x : Serial) : (s.setSerial x).serial = x := rfl
@[simp] theorem State.setSerial_bootActive (x : Serial) : (s.setSerial x).bootActive = s.bootActive := rfl
@[simp] theorem State.setSerial_cart (x : Serial) : (s.setSerial x).cart = s.cart := rfl
@[simp] theorem State.setSerial_mem (x : Serial) : (s.setSerial x).mem = s.mem := rfl
@[simp] theorem State.setSerial_sink (x : Serial) : (s.setSerial x).sink = s.sink := rfl
@[simp] theorem State.setSerial_fault (x : Serial) : (s.setSerial x).fault = s.fault := rfl
@[simp] theorem State.setSerial_params (x : Serial) : (s.setSerial x).params = s.params := rfl

@[simp] theorem State.setBootActive_cpu (x : Bool) : (s.setBootActive x).cpu = s.cpu := rfl
@[simp] theorem State.setBootActive_irq (x : Bool) : (s.setBootActive x).irq = s.irq := rfl
@[simp] theorem State.setBootActive_timer (x : Bool) : (s.setBootActive x).timer = s.timer := rfl
@[simp] theorem State.setBootActive_dma (x : Bool) : (s.setBootActive x).dma = s.dma := rfl
@[simp] theorem State.setBootActive_ppu (x : Bool) : (s.setBootActive x).ppu = s.ppu := rfl
@[simp] theorem State.setBootActive_joypad (x : Bool) : (s.setBootActive x).joypad = s.joypad := rfl
@[simp] theorem State.setBootActive_serial (x : Bool) : (s.setBootActive x).serial = s.serial := rfl
@[simp] theorem State.setBootActive_bootActive (x : Bool) : (s.setBootActive x).bootActive = x := rfl
@[simp] theorem State.setBootActive_cart (x : Bool) : (s.setBootActive x).cart = s.cart := rfl
@[simp] theorem State.setBootActive_mem (x : Bool) : (s.setBootActive x).mem = s.mem := rfl
@[simp] theorem State.setBootActive_sink (x : Bool) : (s.setBootActive x).sink = s.sink := rfl
@[simp] theorem State.setBootActive_fault (x : Bool) : (s.setBootActive x).fault = s.fault := rfl
@[simp] theorem State.setBootActive_params (x : Bool) : (s.setBootActive x).params = s.params := rfl

@[simp] theorem State.setCart_cpu (x : CartState) : (s.setCart x).cpu = s.cpu := rfl
@[simp] theorem State.setCart_irq (x : CartState) : (s.setCart x).irq = s.irq := rfl
@[simp] theorem State.setCart_timer (x : CartState) : (s.setCart x).timer = s.timer := rfl
@[simp] theorem State.setCart_dma (x : CartState) : (s.setCart x).dma = s.dma := rfl
@[simp] theorem State.setCart_ppu (x : CartState) : (s.setCart x).ppu = s.ppu := rfl
@[simp] theorem State.setCart_joypad (x : CartState) : (s.setCart x).joypad = s.joypad := rfl
@[simp] theorem State.setCart_serial (x : CartState) : (s.setCart x).serial = s.serial := rfl
@[simp] theorem State.setCart_bootActive (x : CartState) : (s.setCart x).bootActive = s.bootActive := rfl
@[simp] theorem State.setCart_cart (x : CartState) : (s.setCart x).cart = x := rfl
@[simp] theorem State.setCart_mem (x : CartState) : (s.setCart x).mem = s.mem := rfl
@[simp] theorem State.setCart_sink (x : CartState) : (s.setCart x).sink = s.sink := rfl
@[simp] theorem State.setCart_fault (x : CartState) : (s.setCart x).fault = s.fault := rfl
@[simp] theorem State.setCart_params (x : CartState) : (s.setCart x).params = s.params := rfl

@[simp] theorem State.setMem_cpu (x : Memory) : (s.setMem x).cpu = s.cpu := rfl
@[simp] theorem State.setMem_irq (x : Memory) : (s.setMem x).irq = s.irq := rfl
@[simp] theorem State.setMem_timer (x : Memory) : (s.setMem x).timer = s.timer := rfl
@[simp] theorem State.setMem_dma (x : Memory) : (s.setMem x).dma = s.dma := rfl
@[simp] theorem State.setMem_ppu (x : Memory) : (s.setMem x).ppu = s.ppu := rfl
@[simp] theorem State.setMem_joypad (x : Memory) : (s.setMem x).joypad = s.joypad := rfl
@[simp] theorem State.setMem_serial (x : Memory) : (s.setMem x).serial = s.serial := rfl
@[simp] theorem State.setMem_bootActive (x : Memory) : (s.setMem x).bootActive = s.bootActive := rfl
@[simp] theorem State.setMem_cart (x : Memory) : (s.setMem x).cart = s.cart := rfl
@[simp] theorem State.setMem_mem (x : Memory) : (s.setMem x).mem = x := rfl
@[simp] theorem State.setMem_sink (x : Memory) : (s.setMem x).sink = s.sink := rfl
@[simp] theorem State.setMem_fault (x : Memory) : (s.setMem x).fault = s.fault := rfl
@[simp] theorem State.setMem_params (x : Memory) : (s.setMem x).params = s.params := rfl

@[simp] theorem State.setSink_cpu (x : Sink) : (s.setSink x).cpu = s.cpu := rfl
@[simp] theorem State.setSink_irq (x : Sink) : (s.setSink x).irq = s.irq := rfl
@[simp] theorem State.setSink_timer (x : Sink) : (s.setSink x).timer = s.timer := rfl
@[simp] theorem State.setSink_dma (x : Sink) : (s.setSink x).dma = s.dma := rfl
@[simp] theorem State.setSink_ppu (x : Sink) : (s.setSink x).ppu = s.ppu := rfl
@[simp] theorem State.setSink_joypad (x : Sink) : (s.setSink x).joypad = s.joypad := rfl
@[simp] theorem State.setSink_serial (x : Sink) : (s.setSink x).serial = s.serial := rfl
@[simp] theorem State.setSink_bootActive (x : Sink) : (s.setSink x).bootActive = s.bootActive := rfl
@[simp] theorem State.setSink_cart (x : Sink) : (s.setSink x).cart = s.cart := rfl
@[simp] theorem State.setSink_mem (x : Sink) : (s.setSink x).mem = s.mem := rfl
@[simp] theorem State.setSink_sink (x : Sink) : (s.setSink x).sink = x := rfl
@[simp] theorem State.setSink_fault (x : Sink) : (s.setSink x).fault = s.fault := rfl
@[simp] theorem State.setSink_params (x : Sink) : (s.setSink x).params = s.params := rfl

@[simp] theorem State.setFault_cpu (x : Option Fault) : (s.setFault x).cpu = s.cpu := rfl
@[simp] theorem State.setFault_irq (x : Option Fault) : (s.setFault x).irq = s.irq := rfl
@[simp] theorem State.setFault_timer (x : Option Fault) : (s.setFault x).timer = s.timer := rfl
@[simp] theorem State.setFault_dma (x : Option Fault) : (s.setFault x).dma = s.dma := rfl
@[simp] theorem State.setFault_ppu (x : Option Fault) : (s.setFault x).ppu = s.ppu := rfl
@[simp] theorem State.setFault_joypad (x : Option Fault) : (s.setFault x).joypad = s.joypad := rfl
@[simp] theorem State.setFault_serial (x : Option Fault) : (s.setFault x).serial = s.serial := rfl
@[simp] theorem State.setFault_bootActive (x : Option Fault) : (s.setFault x).bootActive = s.bootActive := rfl
@[simp] theorem State.setFault_cart (x : Option Fault) : (s.setFault x).cart = s.cart := rfl
@[simp] theorem State.setFault_mem (x : Option Fault) : (s.setFault x).mem = s.mem := rfl
@[simp] theorem State.setFault_sink (x : Option Fault) : (s.setFault x).sink = s.sink := rfl
@[simp] theorem State.setFault_fault (x : Option Fault) : (s.setFault x).fault = x := rfl
@[simp] theorem State.setFault_params (x : Option Fault) : (s.setFault x).params = s.params := rfl

@[simp] theorem State.setParams_cpu (x : Params) : (s.setParams x).cpu = s.cpu := rfl
@[simp] theorem State.setParams_irq (x : Params) : (s.setParams x).irq = s.irq := rfl
@[simp] theorem State.setParams_timer (x : Params) : (s.setParams x).timer = s.timer := rfl
@[simp] theorem State.setParams_dma (x : Params) : (s.setParams x).dma = s.dma := rfl
@[simp] theorem State.setParams_ppu (x : Params) : (s.setParams x).ppu = s.ppu := rfl
@[simp] theorem State.setParams_joypad (x : Params) : (s.setParams x).joypad = s.joypad := rfl
@[simp] theorem State.setParams_serial (x : Params) : (s.setParams x).serial = s.serial := rfl
@[simp] theorem State.setParams_bootActive (x : Params) : (s.setParams x).bootActive = s.bootActive := rfl
@[simp] theorem State.setParams_cart (x : Params) : (s.setParams x).cart = s.cart := rfl
@[simp] theorem State.setParams_mem (x : Params) : (s.setParams x).mem = s.mem := rfl
@[simp] theorem State.setParams_sink (x : Params) : (s.setParams x).sink = s.sink := rfl
@[simp] theorem State.setParams_fault (x : Params) : (s.setParams x).fault = s.fault := rfl
@[simp] theorem State.setParams_params (x : Params) : (s.setParams x).params = x := rfl

/-! `setReg` -/

@[simp] theorem State.setReg_irq (r : Reg8) (v : Byte) : (s.setReg r v).irq = s.irq := rfl
@[simp] theorem State.setReg_timer (r : Reg8) (v : Byte) : (s.setReg r v).timer = s.timer := rfl
@[simp] theorem State.setReg_dma (r : Reg8) (v : Byte) : (s.setReg r v).dma = s.dma := rfl
@[simp] theorem State.setReg_ppu (r : Reg8) (v : Byte) : (s.setReg r v).ppu = s.ppu := rfl
@[simp] theorem State.setReg_joypad (r : Reg8) (v : Byte) : (s.setReg r v).joypad = s.joypad := rfl
@[simp] theorem State.setReg_serial (r : Reg8) (v : Byte) : (s.setReg r v).serial = s.serial := rfl
@[simp] theorem State.setReg_bootActive (r : Reg8) (v : Byte) : (s.setReg r v).bootActive = s.bootActive := rfl
@[simp] theorem State.setReg_cart (r : Reg8) (v : Byte) : (s.setReg r v).cart = s.cart := rfl
@[simp] theorem State.setReg_mem (r : Reg8) (v : Byte) : (s.setReg r v).mem = s.mem := rfl
@[simp] theorem State.setReg_sink (r : Reg8) (v : Byte) : (s.setReg r v).sink = s.sink := rfl
@[simp] theorem State.setReg_fault (r : Reg8) (v : Byte) : (s.setReg r v).fault = s.fault := rfl
@[simp] theorem State.setReg_params (r : Reg8) (v : Byte) : (s.setReg r v).params = s.params := rfl

/-! `setPair` -/

@[simp] theorem State.setPair_irq (rr : Pair) (v : Word) : (s.setPair rr v).irq = s.irq := rfl
@[simp] theorem State.setPair_timer (rr : Pair) (v : Word) : (s.setPair rr v).timer = s.timer := rfl
@[simp] theorem State.setPair_dma (rr : Pair) (v : Word) : (s.setPair rr v).dma = s.dma := rfl
@[simp] theorem State.setPair_ppu (rr : Pair) (v : Word) : (s.setPair rr v).ppu = s.ppu := rfl
@[simp] theorem State.setPair_joypad (rr : Pair) (v : Word) : (s.setPair rr v).joypad = s.joypad := rfl
@[simp] theorem State.setPair_serial (rr : Pair) (v : Word) : (s.setPair rr v).serial = s.serial := rfl
@[simp] theorem State.setPair_bootActive (rr : Pair) (v : Word) : (s.setPair rr v).bootActive = s.bootActive := rfl
@[simp] theorem State.setPair_cart (rr : Pair) (v : Word) : (s.setPair rr v).cart = s.cart := rfl
@[simp] theorem State.setPair_mem (rr : Pair) (v : Word) : (s.setPair rr v).mem = s.mem := rfl
@[simp] theorem State.setPair_sink (rr : Pair) (v : Word) : (s.setPair rr v).sink = s.sink := rfl
@[simp] theorem State.setPair_fault (rr : Pair) (v : Word) : (s.setPair rr v).fault = s.fault := rfl
@[simp] theorem State.setPair_params (rr : Pair) (v : Word) : (s.setPair rr v).params = s.params := rfl

/-! `setStackPair` -/

@[simp] theorem State.setStackPair_irq (qq : StackPair) (v : Word) : (s.setStackPair qq v).irq = s.irq := rfl
@[simp] theorem State.setStackPair_timer (qq : StackPair) (v : Word) : (s.setStackPair qq v).timer = s.timer := rfl
@[simp] theorem State.setStackPair_dma (qq : StackPair) (v : Word) : (s.setStackPair qq v).dma = s.dma := rfl
@[simp] theorem State.setStackPair_ppu (qq : StackPair) (v : Word) : (s.setStackPair qq v).ppu = s.ppu := rfl
@[simp] theorem State.setStackPair_joypad (qq : StackPair) (v : Word) : (s.setStackPair qq v).joypad = s.joypad := rfl
@[simp] theorem State.setStackPair_serial (qq : StackPair) (v : Word) : (s.setStackPair qq v).serial = s.serial := rfl
@[simp] theorem State.setStackPair_bootActive (qq : StackPair) (v : Word) : (s.setStackPair qq v).bootActive = s.bootActive := rfl
@[simp] theorem State.setStackPair_cart (qq : StackPair) (v : Word) : (s.setStackPair qq v).cart = s.cart := rfl
@[simp] theorem State.setStackPair_mem (qq : StackPair) (v : Word) : (s.setStackPair qq v).mem = s.mem := rfl
@[simp] theorem State.setStackPair_sink (qq : StackPair) (v : Word) : (s.setStackPair qq v).sink = s.sink := rfl
@[simp] theorem State.setStackPair_fault (qq : StackPair) (v : Word) : (s.setStackPair qq v).fault = s.fault := rfl
@[simp] theorem State.setStackPair_params (qq : StackPair) (v : Word) : (s.setStackPair qq v).params = s.params := rfl

/-! `setFlags` -/

@[simp] theorem State.setFlags_irq (f : Flags) : (s.setFlags f).irq = s.irq := rfl
@[simp] theorem State.setFlags_timer (f : Flags) : (s.setFlags f).timer = s.timer := rfl
@[simp] theorem State.setFlags_dma (f : Flags) : (s.setFlags f).dma = s.dma := rfl
@[simp] theorem State.setFlags_ppu (f : Flags) : (s.setFlags f).ppu = s.ppu := rfl
@[simp] theorem State.setFlags_joypad (f : Flags) : (s.setFlags f).joypad = s.joypad := rfl
@[simp] theorem State.setFlags_serial (f : Flags) : (s.setFlags f).serial = s.serial := rfl
@[simp] theorem State.setFlags_bootActive (f : Flags) : (s.setFlags f).bootActive = s.bootActive := rfl
@[simp] theorem State.setFlags_cart (f : Flags) : (s.setFlags f).cart = s.cart := rfl
@[simp] theorem State.setFlags_mem (f : Flags) : (s.setFlags f).mem = s.mem := rfl
@[simp] theorem State.setFlags_sink (f : Flags) : (s.setFlags f).sink = s.sink := rfl
@[simp] theorem State.setFlags_fault (f : Flags) : (s.setFlags f).fault = s.fault := rfl
@[simp] theorem State.setFlags_params (f : Flags) : (s.setFlags f).params = s.params := rfl

/-! `setPc` -/

@[simp] theorem State.setPc_irq (v : Word) : (s.setPc v).irq = s.irq := rfl
@[simp] theorem State.setPc_timer (v : Word) : (s.setPc v).timer = s.timer := rfl
@[simp] theorem State.setPc_dma (v : Word) : (s.setPc v).dma = s.dma := rfl
@[simp] theorem State.setPc_ppu (v : Word) : (s.setPc v).ppu = s.ppu := rfl
@[simp] theorem State.setPc_joypad (v : Word) : (s.setPc v).joypad = s.joypad := rfl
@[simp] theorem State.setPc_serial (v : Word) : (s.setPc v).serial = s.serial := rfl
@[simp] theorem State.setPc_bootActive (v : Word) : (s.setPc v).bootActive = s.bootActive := rfl
@[simp] theorem State.setPc_cart (v : Word) : (s.setPc v).cart = s.cart := rfl
@[simp] theorem State.setPc_mem (v : Word) : (s.setPc v).mem = s.mem := rfl
@[simp] theorem State.setPc_sink (v : Word) : (s.setPc v).sink = s.sink := rfl
@[simp] theorem State.setPc_fault (v : Word) : (s.setPc v).fault = s.fault := rfl
@[simp] theorem State.setPc_params (v : Word) : (s.setPc v).params = s.params := rfl

/-! `setSp` -/

@[simp] theorem State.setSp_irq (v : Word) : (s.setSp v).irq = s.irq := rfl
@[simp] theorem State.setSp_timer (v : Word) : (s.setSp v).timer = s.timer := rfl
@[simp] theorem State.setSp_dma (v : Word) : (s.setSp v).dma = s.dma := rfl
@[simp] theorem State.setSp_ppu (v : Word) : (s.setSp v).ppu = s.ppu := rfl
@[simp] theorem State.setSp_joypad (v : Word) : (s.setSp v).joypad = s.joypad := rfl
@[simp] theorem State.setSp_serial (v : Word) : (s.setSp v).serial = s.serial := rfl
@[simp] theorem State.setSp_bootActive (v : Word) : (s.setSp v).bootActive = s.bootActive := rfl
@[simp] theorem State.setSp_cart (v : Word) : (s.setSp v).cart = s.cart := rfl
@[simp] theorem State.setSp_mem (v : Word) : (s.setSp v).mem = s.mem := rfl
@[simp] theorem State.setSp_sink (v : Word) : (s.setSp v).sink = s.sink := rfl
@[simp] theorem State.setSp_fault (v : Word) : (s.setSp v).fault = s.fault := rfl
@[simp] theorem State.setSp_params (v : Word) : (s.setSp v).params = s.params := rfl

/-! `setIme` -/

@[simp] theorem State.setIme_irq (b : Bool) : (s.setIme b).irq = s.irq := rfl
@[simp] theorem State.setIme_timer (b : Bool) : (s.setIme b).timer = s.timer := rfl
@[simp] theorem State.setIme_dma (b : Bool) : (s.setIme b).dma = s.dma := rfl
@[simp] theorem State.setIme_ppu (b : Bool) : (s.setIme b).ppu = s.ppu := rfl
@[simp] theorem State.setIme_joypad (b : Bool) : (s.setIme b).joypad = s.joypad := rfl
@[simp] theorem State.setIme_serial (b : Bool) : (s.setIme b).serial = s.serial := rfl
@[simp] theorem State.setIme_bootActive (b : Bool) : (s.setIme b).bootActive = s.bootActive := rfl
@[simp] theorem State.setIme_cart (b : Bool) : (s.setIme b).cart = s.cart := rfl
@[simp] theorem State.setIme_mem (b : Bool) : (s.setIme b).mem = s.mem := rfl
@[simp] theorem State.setIme_sink (b : Bool) : (s.setIme b).sink = s.sink := rfl
@[simp] theorem State.setIme_fault (b : Bool) : (s.setIme b).fault = s.fault := rfl
@[simp] theorem State.setIme_params (b : Bool) : (s.setIme b).params = s.params := rfl

/-! `setEiPending` -/

@[simp] theorem State.setEiPending_irq (b : Bool) : (s.setEiPending b).irq = s.irq := rfl
@[simp] theorem State.setEiPending_timer (b : Bool) : (s.setEiPending b).timer = s.timer := rfl
@[simp] theorem State.setEiPending_dma (b : Bool) : (s.setEiPending b).dma = s.dma := rfl
@[simp] theorem State.setEiPending_ppu (b : Bool) : (s.setEiPending b).ppu = s.ppu := rfl
@[simp] theorem State.setEiPending_joypad (b : Bool) : (s.setEiPending b).joypad = s.joypad := rfl
@[simp] theorem State.setEiPending_serial (b : Bool) : (s.setEiPending b).serial = s.serial := rfl
@[simp] theorem State.setEiPending_bootActive (b : Bool) : (s.setEiPending b).bootActive = s.bootActive := rfl
@[simp] theorem State.setEiPending_cart (b : Bool) : (s.setEiPending b).cart = s.cart := rfl
@[simp] theorem State.setEiPending_mem (b : Bool) : (s.setEiPending b).mem = s.mem := rfl
@[simp] theorem State.setEiPending_sink (b : Bool) : (s.setEiPending b).sink = s.sink := rfl
@[simp] theorem State.setEiPending_fault (b : Bool) : (s.setEiPending b).fault = s.fault := rfl
@[simp] theorem State.setEiPending_params (b : Bool) : (s.setEiPending b).params = s.params := rfl

/-! `setHalted` -/

@[simp] theorem State.setHalted_irq (b : Bool) : (s.setHalted b).irq = s.irq := rfl
@[simp] theorem State.setHalted_timer (b : Bool) : (s.setHalted b).timer = s.timer := rfl
@[simp] theorem State.setHalted_dma (b : Bool) : (s.setHalted b).dma = s.dma := rfl
@[simp] theorem State.setHalted_ppu (b : Bool) : (s.setHalted b).ppu = s.ppu := rfl
@[simp] theorem State.setHalted_joypad (b : Bool) : (s.setHalted b).joypad = s.joypad := rfl
@[simp] theorem State.setHalted_serial (b : Bool) : (s.setHalted b).serial = s.serial := rfl
@[simp] theorem State.setHalted_bootActive (b : Bool) : (s.setHalted b).bootActive = s.bootActive := rfl
@[simp] theorem State.setHalted_cart (b : Bool) : (s.setHalted b).cart = s.cart := rfl
@[simp] theorem State.setHalted_mem (b : Bool) : (s.setHalted b).mem = s.mem := rfl
@[simp] theorem State.setHalted_sink (b : Bool) : (s.setHalted b).sink = s.sink := rfl
@[simp] theorem State.setHalted_fault (b : Bool) : (s.setHalted b).fault = s.fault := rfl
@[simp] theorem State.setHalted_params (b : Bool) : (s.setHalted b).params = s.params := rfl

/-! `setStopped` -/

@[simp] theorem State.setStopped_irq (b : Bool) : (s.setStopped b).irq = s.irq := rfl
@[simp] theorem State.setStopped_timer (b : Bool) : (s.setStopped b).timer = s.timer := rfl
@[simp] theorem State.setStopped_dma (b : Bool) : (s.setStopped b).dma = s.dma := rfl
@[simp] theorem State.setStopped_ppu (b : Bool) : (s.setStopped b).ppu = s.ppu := rfl
@[simp] theorem State.setStopped_joypad (b : Bool) : (s.setStopped b).joypad = s.joypad := rfl
@[simp] theorem State.setStopped_serial (b : Bool) : (s.setStopped b).serial = s.serial := rfl
@[simp] theorem State.setStopped_bootActive (b : Bool) : (s.setStopped b).bootActive = s.bootActive := rfl
@[simp] theorem State.setStopped_cart (b : Bool) : (s.setStopped b).cart = s.cart := rfl
@[simp] theorem State.setStopped_mem (b : Bool) : (s.setStopped b).mem = s.mem := rfl
@[simp] theorem State.setStopped_sink (b : Bool) : (s.setStopped b).sink = s.sink := rfl
@[simp] theorem State.setStopped_fault (b : Bool) : (s.setStopped b).fault = s.fault := rfl
@[simp] theorem State.setStopped_params (b : Bool) : (s.setStopped b).params = s.params := rfl

/-! The CPU after each update. -/

@[simp] theorem State.setReg_cpu (r : Reg8) (v : Byte) : (s.setReg r v).cpu = s.cpu.set r v := rfl
@[simp] theorem State.setPair_cpu (rr : Pair) (v : Word) : (s.setPair rr v).cpu = s.cpu.setPair rr v := rfl
@[simp] theorem State.setStackPair_cpu (qq : StackPair) (v : Word) :
    (s.setStackPair qq v).cpu = s.cpu.setStackPair qq v := rfl
@[simp] theorem State.setFlags_cpu (f : Flags) : (s.setFlags f).cpu = { s.cpu with flags := f } := rfl
@[simp] theorem State.setPc_cpu (v : Word) : (s.setPc v).cpu = { s.cpu with pc := v } := rfl
@[simp] theorem State.setSp_cpu (v : Word) : (s.setSp v).cpu = { s.cpu with sp := v } := rfl
@[simp] theorem State.setIme_cpu (b : Bool) : (s.setIme b).cpu = { s.cpu with ime := b } := rfl
@[simp] theorem State.setEiPending_cpu (b : Bool) : (s.setEiPending b).cpu = { s.cpu with eiPending := b } := rfl
@[simp] theorem State.setHalted_cpu (b : Bool) : (s.setHalted b).cpu = { s.cpu with halted := b } := rfl
@[simp] theorem State.setStopped_cpu (b : Bool) : (s.setStopped b).cpu = { s.cpu with stopped := b } := rfl

/-! Fields of the CPU. -/

variable (k : Cpu)

@[simp] theorem Cpu.set_flags (r : Reg8) (v : Byte) : (k.set r v).flags = k.flags := by cases r <;> rfl
@[simp] theorem Cpu.set_sp (r : Reg8) (v : Byte) : (k.set r v).sp = k.sp := by cases r <;> rfl
@[simp] theorem Cpu.set_pc (r : Reg8) (v : Byte) : (k.set r v).pc = k.pc := by cases r <;> rfl
@[simp] theorem Cpu.set_ime (r : Reg8) (v : Byte) : (k.set r v).ime = k.ime := by cases r <;> rfl
@[simp] theorem Cpu.set_eiPending (r : Reg8) (v : Byte) : (k.set r v).eiPending = k.eiPending := by cases r <;> rfl
@[simp] theorem Cpu.set_halted (r : Reg8) (v : Byte) : (k.set r v).halted = k.halted := by cases r <;> rfl
@[simp] theorem Cpu.set_stopped (r : Reg8) (v : Byte) : (k.set r v).stopped = k.stopped := by cases r <;> rfl
@[simp] theorem Cpu.setPair_flags (rr : Pair) (v : Word) : (k.setPair rr v).flags = k.flags := by cases rr <;> rfl
@[simp] theorem Cpu.setPair_pc (rr : Pair) (v : Word) : (k.setPair rr v).pc = k.pc := by cases rr <;> rfl
@[simp] theorem Cpu.setPair_ime (rr : Pair) (v : Word) : (k.setPair rr v).ime = k.ime := by cases rr <;> rfl
@[simp] theorem Cpu.setPair_eiPending (rr : Pair) (v : Word) : (k.setPair rr v).eiPending = k.eiPending := by cases rr <;> rfl
@[simp] theorem Cpu.setPair_halted (rr : Pair) (v : Word) : (k.setPair rr v).halted = k.halted := by cases rr <;> rfl
@[simp] theorem Cpu.setPair_stopped (rr : Pair) (v : Word) : (k.setPair rr v).stopped = k.stopped := by cases rr <;> rfl
@[simp] theorem Cpu.setStackPair_sp (qq : StackPair) (v : Word) : (k.setStackPair qq v).sp = k.sp := by
  cases qq <;> rfl
@[simp] theorem Cpu.setStackPair_pc (qq : StackPair) (v : Word) : (k.setStackPair qq v).pc = k.pc := by
  cases qq <;> rfl
@[simp] theorem Cpu.setStackPair_ime (qq : StackPair) (v : Word) : (k.setStackPair qq v).ime = k.ime := by
  cases qq <;> rfl
@[simp] theorem Cpu.setStackPair_eiPending (qq : StackPair) (v : Word) : (k.setStackPair qq v).eiPending = k.eiPending := by
  cases qq <;> rfl
@[simp] theorem Cpu.setStackPair_halted (qq : StackPair) (v : Word) : (k.setStackPair qq v).halted = k.halted := by
  cases qq <;> rfl
@[simp] theorem Cpu.setStackPair_stopped (qq : StackPair) (v : Word) : (k.setStackPair qq v).stopped = k.stopped := by
  cases qq <;> rfl

@[simp] theorem Cpu.get_set_same (r : Reg8) (v : Byte) : (k.set r v).get r = v := by cases r <;> rfl

theorem Cpu.get_set_other {r q : Reg8} (v : Byte) (h : q ≠ r) : (k.set r v).get q = k.get q := by
  cases r <;> cases q <;> first | rfl | exact absurd rfl h

/-! The general registers do not see the other fields. -/

@[simp] theorem Cpu.get_with_flags (r : Reg8) (f : Flags) : Cpu.get { k with flags := f } r = k.get r := by cases r <;> rfl
@[simp] theorem Cpu.get_with_sp (r : Reg8) (v : Word) : Cpu.get { k with sp := v } r = k.get r := by cases r <;> rfl
@[simp] theorem Cpu.get_with_pc (r : Reg8) (v : Word) : Cpu.get { k with pc := v } r = k.get r := by cases r <;> rfl
@[simp] theorem Cpu.get_with_ime (r : Reg8) (b : Bool) : Cpu.get { k with ime := b } r = k.get r := by cases r <;> rfl

/-! Words and their halves, pairs read back (R21). -/

theorem word_getLsbD (h l : Byte) (i : Nat) :
    (word h l).getLsbD i = if i < 8 then l.getLsbD i else h.getLsbD (i - 8) :=
  (BitVec.getLsbD_append (x := h) (y := l) (i := i)).trans (by split <;> simp_all)

theorem hi_getLsbD (v : Word) (i : Nat) : (Sys2Proof.hi v).getLsbD i = (decide (i < 8) && v.getLsbD (8 + i)) := by
  simp [Sys2Proof.hi, BitVec.getLsbD_extractLsb']

theorem lo_getLsbD (v : Word) (i : Nat) : (Sys2Proof.lo v).getLsbD i = (decide (i < 8) && v.getLsbD i) := by
  simp [Sys2Proof.lo, BitVec.getLsbD_extractLsb']

@[simp] theorem hi_word (h l : Byte) : Sys2Proof.hi (word h l) = h := by
  apply BitVec.eq_of_getLsbD_eq; intro i hi
  rw [hi_getLsbD, word_getLsbD, if_neg (by omega)]
  simp [hi]

@[simp] theorem lo_word (h l : Byte) : Sys2Proof.lo (word h l) = l := by
  apply BitVec.eq_of_getLsbD_eq; intro i hi
  rw [lo_getLsbD, word_getLsbD, if_pos hi]
  simp [hi]

@[simp] theorem word_hi_lo (v : Word) : word (Sys2Proof.hi v) (Sys2Proof.lo v) = v := by
  apply BitVec.eq_of_getLsbD_eq; intro i hi
  rw [word_getLsbD, lo_getLsbD, hi_getLsbD]
  by_cases h : i < 8
  · simp [h]
  · simp [h, show i - 8 < 8 by omega, show 8 + (i - 8) = i by omega]

@[simp] theorem Cpu.getPair_setPair_same (rr : Pair) (v : Word) : (k.setPair rr v).getPair rr = v := by
  cases rr <;> simp [Cpu.getPair, Cpu.setPair]

theorem Cpu.getPair_setPair_other {rr q : Pair} (v : Word) (h : q ≠ rr) :
    (k.setPair rr v).getPair q = k.getPair q := by
  cases rr <;> cases q <;> first | rfl | exact absurd rfl h

/-- Decoding the encoding of the flags gives them back (R24). -/
@[simp] theorem Flags.decode_encode (f : Flags) : Flags.decode f.encode = f := by
  obtain ⟨z, n, h, c⟩ := f
  cases z <;> cases n <;> cases h <;> cases c <;> rfl

end Sys2Proof.Machine
end

