-- ==== Sys2Proof/Laws/Tick.lean ====
section
/-! SUPPORT. What a tick can do, unit by unit: the PPU and the timer touch their own state and raise pending bits; DMA touches its
own state and one byte of `oam`, or raises a fault. -/

namespace Sys2Proof.Machine

/-- `t` differs from `s` at most in the PPU, the sink, the timer and the pending bits. -/
structure ClockOnly (s t : State) : Prop where
  cpu : t.cpu = s.cpu
  ie : t.irq.ie = s.irq.ie
  dma : t.dma = s.dma
  joypad : t.joypad = s.joypad
  serial : t.serial = s.serial
  bootActive : t.bootActive = s.bootActive
  cart : t.cart = s.cart
  mem : t.mem = s.mem
  fault : t.fault = s.fault
  params : t.params = s.params

theorem ClockOnly.refl (s : State) : ClockOnly s s := ⟨rfl, rfl, rfl, rfl, rfl, rfl, rfl, rfl, rfl, rfl⟩

theorem ClockOnly.trans {s t u : State} (h : ClockOnly s t) (k : ClockOnly t u) : ClockOnly s u :=
  ⟨k.cpu.trans h.cpu, k.ie.trans h.ie, k.dma.trans h.dma, k.joypad.trans h.joypad, k.serial.trans h.serial,
    k.bootActive.trans h.bootActive, k.cart.trans h.cart, k.mem.trans h.mem, k.fault.trans h.fault,
    k.params.trans h.params⟩

theorem setPpu_clockOnly (s : State) (p : Ppu) : ClockOnly s (s.setPpu p) :=
  ⟨rfl, rfl, rfl, rfl, rfl, rfl, rfl, rfl, rfl, rfl⟩

theorem setSink_clockOnly (s : State) (k : Sink) : ClockOnly s (s.setSink k) :=
  ⟨rfl, rfl, rfl, rfl, rfl, rfl, rfl, rfl, rfl, rfl⟩

theorem setTimer_clockOnly (s : State) (k : Timer) : ClockOnly s (s.setTimer k) :=
  ⟨rfl, rfl, rfl, rfl, rfl, rfl, rfl, rfl, rfl, rfl⟩

theorem raiseInterrupt_clockOnly (i : Source) (s : State) : ClockOnly s (raiseInterrupt i s) :=
  ⟨rfl, rfl, rfl, rfl, rfl, rfl, rfl, rfl, rfl, rfl⟩

theorem raiseIf_clockOnly (c : Bool) (i : Source) (s : State) : ClockOnly s (raiseIf c i s) := by
  unfold raiseIf; split
  · exact raiseInterrupt_clockOnly i s
  · exact ClockOnly.refl s

@[simp] theorem raiseIf_ppu (c : Bool) (i : Source) (s : State) : (raiseIf c i s).ppu = s.ppu := by
  unfold raiseIf; split <;> rfl

@[simp] theorem raiseIf_sink (c : Bool) (i : Source) (s : State) : (raiseIf c i s).sink = s.sink := by
  unfold raiseIf; split <;> rfl

@[simp] theorem raiseIf_params (c : Bool) (i : Source) (s : State) : (raiseIf c i s).params = s.params := by
  unfold raiseIf; split <;> rfl

@[simp] theorem raiseIf_timer (c : Bool) (i : Source) (s : State) : (raiseIf c i s).timer = s.timer := by
  unfold raiseIf; split <;> rfl

theorem ppuEnter_clockOnly (m : PpuMode) (s : State) : ClockOnly s (ppuEnter m s) :=
  ((setPpu_clockOnly s _).trans (raiseIf_clockOnly _ _ _)).trans (raiseIf_clockOnly _ _ _)

theorem setScanline_clockOnly (y : Byte) (s : State) : ClockOnly s (setScanline y s) :=
  ((setPpu_clockOnly s _).trans (setPpu_clockOnly _ _)).trans (raiseIf_clockOnly _ _ _)

/-- After a scanline advance (R359). -/
theorem setScanline_ppu (y : Byte) (s : State) :
    (setScanline y s).ppu = { s.ppu with ly := y, lycFlag := y == s.ppu.lyc } := by
  simp [setScanline, lycCompare]

@[simp] theorem setScanline_sink (y : Byte) (s : State) : (setScanline y s).sink = s.sink := by
  simp [setScanline, lycCompare]

@[simp] theorem setScanline_params (y : Byte) (s : State) : (setScanline y s).params = s.params := by
  simp [setScanline, lycCompare]

/-- After a mode entry (R354). -/
theorem ppuEnter_ppu (m : PpuMode) (s : State) :
    (ppuEnter m s).ppu = { s.ppu with mode := m, modeCtr := budget s.params m } := by
  simp [ppuEnter]

@[simp] theorem ppuEnter_sink (m : PpuMode) (s : State) : (ppuEnter m s).sink = s.sink := by
  simp [ppuEnter]

@[simp] theorem ppuEnter_params (m : PpuMode) (s : State) : (ppuEnter m s).params = s.params := by
  simp [ppuEnter]

theorem ppuExpire_clockOnly (s : State) : ClockOnly s (ppuExpire s) := by
  unfold ppuExpire
  split
  · exact ppuEnter_clockOnly _ _
  · exact (setSink_clockOnly s _).trans (ppuEnter_clockOnly _ _)
  · refine (setScanline_clockOnly (s.ppu.ly + 1) s).trans ?_
    dsimp only
    split
    · exact ppuEnter_clockOnly _ _
    · exact (setSink_clockOnly _ _).trans (ppuEnter_clockOnly _ _)
  · split
    · exact (setScanline_clockOnly _ s).trans (setPpu_clockOnly _ _)
    · exact (setScanline_clockOnly _ s).trans (ppuEnter_clockOnly _ _)

theorem ppuTick_clockOnly (s : State) : ClockOnly s (ppuTick s) := by
  unfold ppuTick
  split
  · exact ClockOnly.refl s
  · dsimp only
    split
    · exact setPpu_clockOnly s _
    · exact (setPpu_clockOnly s _).trans (ppuExpire_clockOnly _)

theorem timerTick_clockOnly (s : State) : ClockOnly s (timerTick s) := by
  unfold timerTick
  dsimp only
  split
  · split
    · exact (setTimer_clockOnly s _).trans (raiseInterrupt_clockOnly _ _)
    · exact setTimer_clockOnly s _
  · exact setTimer_clockOnly s _

theorem timerTick_ppu (s : State) : (timerTick s).ppu = s.ppu := by
  unfold timerTick; dsimp only; split <;> (try split) <;> rfl

theorem timerTick_sink (s : State) : (timerTick s).sink = s.sink := by
  unfold timerTick; dsimp only; split <;> (try split) <;> rfl

/-- The video and timer part of a tick. -/
theorem clock_clockOnly (s : State) : ClockOnly s (timerTick (ppuTick s)) :=
  (ppuTick_clockOnly s).trans (timerTick_clockOnly _)

/-- The machine whose transfer is one byte further. -/
def dmaNext (s : State) : State := s.setDma { s.dma with off := s.dma.off + 1 }

/-- The bus address the transfer reads next (R318). -/
def dmaAddress (s : State) : Word := word s.dma.src s.dma.off

/-- Everything `DmaTick` can do (R318). -/
theorem dmaTick_cases (s : State) :
    (s.dma.active = false ∧ dmaTick s = .done () s) ∨
    (s.dma.active = true ∧ 160 ≤ s.dma.off.toNat ∧
      dmaTick s = .done () (s.setDma { s.dma with active := false })) ∨
    (s.dma.active = true ∧ s.dma.off.toNat < 160 ∧ s.supported (dmaAddress s) = true ∧
      dmaTick s = .done () ((dmaNext s).setMem
        (s.mem.write (oamBase + zext s.dma.off) ((dmaNext s).busByte (dmaAddress s))))) ∨
    (s.dma.active = true ∧ s.dma.off.toNat < 160 ∧ s.supported (dmaAddress s) = false ∧
      dmaTick s = .raised (raiseFault (.unsupportedAddress (dmaAddress s) .read) (dmaNext s))) := by
  have hsup : (dmaNext s).supported (dmaAddress s) = s.supported (dmaAddress s) := rfl
  have key : dmaTick s =
      if s.dma.active = false then .done () s
      else if 160 ≤ s.dma.off.toNat then .done () (s.setDma { s.dma with active := false })
      else
        match (if (dmaNext s).supported (dmaAddress s) then some ((dmaNext s).busByte (dmaAddress s)) else none) with
        | some v => .done () ((dmaNext s).setMem (s.mem.write (oamBase + zext s.dma.off) v))
        | none => .raised (raiseFault (.unsupportedAddress (dmaAddress s) .read) (dmaNext s)) := rfl
  rw [key, hsup]
  cases s.dma.active
  · exact .inl ⟨rfl, rfl⟩
  · right
    by_cases ho : 160 ≤ s.dma.off.toNat
    · exact .inl ⟨rfl, ho, by simp [ho]⟩
    · right
      have hlt : s.dma.off.toNat < 160 := by omega
      cases s.supported (dmaAddress s)
      · exact .inr ⟨rfl, hlt, rfl, by simp [ho]⟩
      · exact .inl ⟨rfl, hlt, rfl, by simp [ho]⟩

/-- The registers a fault records are the CPU's (R290). -/
@[simp] theorem raiseFault_fault (k : Snapshot → Fault) (s : State) : (raiseFault k s).fault = some (k s.cpu.snapshot) := rfl

theorem word_toNat (h l : Byte) : (word h l).toNat = h.toNat * 256 + l.toNat := by
  simp only [word, BitVec.toNat_append]
  rw [← Nat.shiftLeft_add_eq_or_of_lt l.isLt, Nat.shiftLeft_eq]

/-- `oam[i]` on the bus (R34). -/
theorem oam_address {i : Byte} (h : i.toNat < 160) : (oamBase + zext i).toNat = 0xFE00 + i.toNat := by
  simp only [oamBase, zext, BitVec.toNat_add, BitVec.toNat_setWidth]
  simp; omega

/-- A transfer's read raises only under policy `fault` and from a page in `0xE0..0xFD` (R318). -/
theorem dmaAddress_supported {s : State} (ho : s.dma.off.toNat < 160) (ha : s.dma.active = true)
    (h : s.dmaSafe = true) : s.supported (dmaAddress s) = true := by
  simp only [State.supported, Bool.or_eq_true, bne_iff_ne]
  simp only [State.dmaSafe, ha, Bool.not_true, Bool.false_or, Bool.or_eq_true, Bool.not_eq_true',
    Bool.and_eq_false_iff, decide_eq_false_iff_not] at h
  rcases h with h | h
  · exact .inl h
  · refine .inr fun hr => ?_
    have := (regionOf_unsupported _).mp hr
    rw [dmaAddress, word_toNat] at this
    have := s.dma.src.isLt
    omega

/-- What `DmaTick` does where it raises nothing: all the cases but the last (R318). -/
theorem dmaTick_of_safe {s : State} (h : s.dmaSafe = true) : dmaTick s = .done () (dmaTick s).state := by
  rcases dmaTick_cases s with ⟨_, e⟩ | ⟨_, _, e⟩ | ⟨_, _, _, e⟩ | ⟨ha, ho, hs, _⟩
  · rw [e]; rfl
  · rw [e]; rfl
  · rw [e]; rfl
  · rw [dmaAddress_supported ho ha h] at hs; exact absurd hs (by decide)

/-- A tick with no raising transfer completes (R61). -/
theorem advance_of_safe {s : State} (h : s.dmaSafe = true) : advance s = .done () s.tick := by
  unfold State.tick advance
  rw [dmaTick_of_safe h]
  rfl

/-- Everything a tick can do: the video and timer part after a DMA tick that completed, or a DMA tick that raised. -/
theorem tick_cases (s : State) :
    (∃ t, dmaTick s = .done () t ∧ advance s = .done () s.tick ∧ s.tick = timerTick (ppuTick t)) ∨
    (dmaTick s = .raised s.tick ∧ advance s = .raised s.tick) := by
  unfold State.tick advance
  cases dmaTick s with
  | done v t => exact .inl ⟨t, rfl, rfl, rfl⟩
  | raised t => exact .inr ⟨rfl, rfl⟩

/-- A tick that raises ends with the fault latched. -/
theorem advance_raised {s t : State} (h : advance s = .raised t) : ∃ f, t.setFault (some f) = t := by
  rcases dmaTick_cases s with ⟨_, e⟩ | ⟨_, _, e⟩ | ⟨_, _, _, e⟩ | ⟨_, _, _, e⟩ <;> rw [advance, e] at h
  · injection h
  · injection h
  · injection h
  · injection h with h; subst h; exact ⟨_, rfl⟩

/-- `t` differs from `s` at most in the DMA controller, memory and the fault latch. -/
structure DmaOnly (s t : State) : Prop where
  cpu : t.cpu = s.cpu
  irq : t.irq = s.irq
  timer : t.timer = s.timer
  src : t.dma.src = s.dma.src
  active : t.dma.active = true → s.dma.active = true
  ppu : t.ppu = s.ppu
  joypad : t.joypad = s.joypad
  serial : t.serial = s.serial
  bootActive : t.bootActive = s.bootActive
  cart : t.cart = s.cart
  sink : t.sink = s.sink
  params : t.params = s.params

theorem dmaTick_dmaOnly (s : State) : DmaOnly s (dmaTick s).state := by
  rcases dmaTick_cases s with ⟨_, e⟩ | ⟨_, _, e⟩ | ⟨_, _, _, e⟩ | ⟨_, _, _, e⟩ <;> rw [e] <;>
    exact ⟨rfl, rfl, rfl, rfl, by simp_all [Flow.state, dmaNext, raiseFault], rfl, rfl, rfl, rfl, rfl, rfl, rfl⟩

theorem tick_eq (s : State) :
    s.tick = (dmaTick s).state ∨ s.tick = timerTick (ppuTick (dmaTick s).state) := by
  rcases tick_cases s with ⟨t, e, _, h⟩ | ⟨e, _⟩
  · right; rw [e]; exact h
  · left; rw [e]; rfl

/-! What a tick leaves alone, raised or not. -/

@[simp] theorem tick_cpu (s : State) : s.tick.cpu = s.cpu := by
  rcases tick_eq s with h | h <;> rw [h]
  · exact (dmaTick_dmaOnly s).cpu
  · exact (clock_clockOnly _).cpu.trans (dmaTick_dmaOnly s).cpu

@[simp] theorem tick_ie (s : State) : s.tick.irq.ie = s.irq.ie := by
  rcases tick_eq s with h | h <;> rw [h]
  · rw [(dmaTick_dmaOnly s).irq]
  · rw [(clock_clockOnly _).ie, (dmaTick_dmaOnly s).irq]

@[simp] theorem tick_joypad (s : State) : s.tick.joypad = s.joypad := by
  rcases tick_eq s with h | h <;> rw [h]
  · exact (dmaTick_dmaOnly s).joypad
  · exact (clock_clockOnly _).joypad.trans (dmaTick_dmaOnly s).joypad

@[simp] theorem tick_serial (s : State) : s.tick.serial = s.serial := by
  rcases tick_eq s with h | h <;> rw [h]
  · exact (dmaTick_dmaOnly s).serial
  · exact (clock_clockOnly _).serial.trans (dmaTick_dmaOnly s).serial

@[simp] theorem tick_bootActive (s : State) : s.tick.bootActive = s.bootActive := by
  rcases tick_eq s with h | h <;> rw [h]
  · exact (dmaTick_dmaOnly s).bootActive
  · exact (clock_clockOnly _).bootActive.trans (dmaTick_dmaOnly s).bootActive

@[simp] theorem tick_cart (s : State) : s.tick.cart = s.cart := by
  rcases tick_eq s with h | h <;> rw [h]
  · exact (dmaTick_dmaOnly s).cart
  · exact (clock_clockOnly _).cart.trans (dmaTick_dmaOnly s).cart

@[simp] theorem tick_params (s : State) : s.tick.params = s.params := by
  rcases tick_eq s with h | h <;> rw [h]
  · exact (dmaTick_dmaOnly s).params
  · exact (clock_clockOnly _).params.trans (dmaTick_dmaOnly s).params

@[simp] theorem tick_dmaSrc (s : State) : s.tick.dma.src = s.dma.src := by
  rcases tick_eq s with h | h <;> rw [h]
  · exact (dmaTick_dmaOnly s).src
  · rw [(clock_clockOnly _).dma, (dmaTick_dmaOnly s).src]

/-- No tick starts a transfer (R317). -/
theorem tick_dmaActive {s : State} (h : s.tick.dma.active = true) : s.dma.active = true := by
  rcases tick_eq s with k | k <;> rw [k] at h
  · exact (dmaTick_dmaOnly s).active h
  · rw [(clock_clockOnly _).dma] at h; exact (dmaTick_dmaOnly s).active h

@[simp] theorem tick_reg (s : State) (r : Reg8) : s.tick.reg r = s.reg r := by simp [State.reg]
@[simp] theorem tick_pair (s : State) (rr : Pair) : s.tick.pair rr = s.pair rr := by simp [State.pair]
@[simp] theorem tick_supported (s : State) (a : Word) : s.tick.supported a = s.supported a := by simp [State.supported]

/-- A safe tick latches no fault. -/
theorem tick_fault {s : State} (h : s.dmaSafe = true) : s.tick.fault = s.fault := by
  rcases tick_cases s with ⟨t, e, _, k⟩ | ⟨_, k⟩
  · rw [k, (clock_clockOnly t).fault]
    rcases dmaTick_cases s with ⟨_, d⟩ | ⟨_, _, d⟩ | ⟨_, _, _, d⟩ | ⟨_, _, _, d⟩ <;> rw [d] at e
    · injection e with _ e; rw [← e]
    · injection e with _ e; rw [← e]; rfl
    · injection e with _ e; rw [← e]; rfl
    · injection e
  · rw [advance_of_safe h] at k; injection k

/-- A tick changes memory in `oam` only, and there only while a transfer is active (R318). -/
theorem tick_mem (s : State) (a : Word) (h : s.dma.active = false ∨ regionOf a ≠ .oam) :
    s.tick.mem.read a = s.mem.read a := by
  have key : (dmaTick s).state.mem.read a = s.mem.read a := by
    rcases dmaTick_cases s with ⟨_, e⟩ | ⟨_, _, e⟩ | ⟨ha, ho, _, e⟩ | ⟨_, _, _, e⟩ <;> rw [e]
    · rfl
    · rfl
    · apply Memory.read_write_other
      rintro rfl
      rcases h with h | h
      · rw [h] at ha; exact absurd ha (by decide)
      · exact h ((regionOf_oam _).mpr (by rw [oam_address ho]; omega))
    · rfl
  rcases tick_eq s with k | k <;> rw [k]
  · exact key
  · rw [(clock_clockOnly _).mem]; exact key

/-- With no transfer active a tick is the PPU's and the timer's alone. -/
theorem tick_of_idle_dma {s : State} (h : s.dma.active = false) : s.tick = timerTick (ppuTick s) := by
  rcases dmaTick_cases s with ⟨_, e⟩ | ⟨ha, _⟩ | ⟨ha, _⟩ | ⟨ha, _⟩
  · simp [State.tick, advance, e, Flow.bind, Flow.state]
  all_goals rw [h] at ha; exact absurd ha (by decide)

/-- The transfer's page and the policy stay, so a safe state stays safe over ticks. -/
theorem tick_dmaSafe {s : State} (h : s.dmaSafe = true) : s.tick.dmaSafe = true := by
  simp only [State.dmaSafe, tick_params, tick_dmaSrc, Bool.or_eq_true, Bool.not_eq_true'] at h ⊢
  rcases h with (h | h) | h
  · left; left
    cases hk : s.tick.dma.active
    · rfl
    · rw [tick_dmaActive hk] at h; exact absurd h (by decide)
  · exact .inl (.inr h)
  · exact .inr h

theorem ticks_succ (s : State) (n : Nat) : s.ticks (n + 1) = s.tick.ticks n := rfl

@[simp] theorem ticks_cpu (s : State) (n : Nat) : (s.ticks n).cpu = s.cpu := by
  induction n generalizing s with
  | zero => rfl
  | succ n ih => rw [ticks_succ, ih, tick_cpu]

@[simp] theorem ticks_params (s : State) (n : Nat) : (s.ticks n).params = s.params := by
  induction n generalizing s with
  | zero => rfl
  | succ n ih => rw [ticks_succ, ih, tick_params]

theorem ticks_dmaSafe {s : State} (h : s.dmaSafe = true) (n : Nat) : (s.ticks n).dmaSafe = true := by
  induction n generalizing s with
  | zero => exact h
  | succ n ih => exact ih (tick_dmaSafe h)

end Sys2Proof.Machine
end

