-- ==== Sys2Proof/Laws/Access.lean ====
section
/-! SUPPORT. One lemma per primitive of R8: what it answers where no fault is raised, and what it answers where the address is
unsupported. A caller cites these and does not unfold the primitive. -/

namespace Sys2Proof.Machine

@[simp] theorem Flow.bind_done {α β : Type} (v : α) (s : State) (f : α → State → Flow β) :
    (Flow.done v s).bind f = f v s := rfl

@[simp] theorem Flow.bind_raised {α β : Type} (s : State) (f : α → State → Flow β) :
    (Flow.raised s : Flow α).bind f = .raised s := rfl

@[simp] theorem Flow.outcome_done {α : Type} (v : α) (s : State) : (Flow.done v s).outcome = .next s := rfl

@[simp] theorem Flow.outcome_raised {α : Type} (s : State) : (Flow.raised s : Flow α).outcome = .next s := rfl

theorem Flow.bind_assoc {α β γ : Type} (x : Flow α) (f : α → State → Flow β) (g : β → State → Flow γ) :
    (x.bind f).bind g = x.bind fun v s => (f v s).bind g := by cases x <;> rfl

/-- A byte read (R62). -/
theorem readByte_done {s : State} {a : Word} (h : s.dmaSafe = true) (ha : s.supported a = true) :
    readByte a s = .done (s.tick.busByte a) s.tick := by
  simp [readByte, advance_of_safe h, rawRead, ha]

/-- A byte write (R63). -/
theorem writeByte_done {s : State} {a : Word} (v : Byte) (h : s.dmaSafe = true) (ha : s.supported a = true) :
    writeByte a v s = .done () (s.tick.busWrite a v) := by
  simp [writeByte, advance_of_safe h, rawWrite, ha]

/-- A read of an unsupported address (R292). -/
theorem readByte_raised {s : State} {a : Word} (h : s.dmaSafe = true) (ha : s.supported a = false) :
    readByte a s = .raised (raiseFault (.unsupportedAddress a .read) s.tick) := by
  simp [readByte, advance_of_safe h, rawRead, ha]

/-- A write of an unsupported address (R292). -/
theorem writeByte_raised {s : State} {a : Word} (v : Byte) (h : s.dmaSafe = true) (ha : s.supported a = false) :
    writeByte a v s = .raised (raiseFault (.unsupportedAddress a .write) s.tick) := by
  simp [writeByte, advance_of_safe h, rawWrite, ha]

/-- Everything a byte read can do: it completes after the tick, or a fault is latched in the tick or after it. -/
theorem readByte_cases (a : Word) (s : State) :
    (∃ v, readByte a s = .done v s.tick) ∨ (∃ f, readByte a s = .raised (s.tick.setFault (some f))) := by
  rcases tick_cases s with ⟨_, _, e, _⟩ | ⟨_, e⟩
  · unfold readByte rawRead
    rw [e, Flow.bind_done]
    cases s.tick.supported a
    · exact .inr ⟨_, rfl⟩
    · exact .inl ⟨_, rfl⟩
  · obtain ⟨f, hf⟩ := advance_raised e
    refine .inr ⟨f, ?_⟩
    unfold readByte
    rw [e, Flow.bind_raised, hf]

/-- Everything a byte write can do. -/
theorem writeByte_cases (a : Word) (v : Byte) (s : State) :
    writeByte a v s = .done () (s.tick.busWrite a v) ∨ (∃ f, writeByte a v s = .raised (s.tick.setFault (some f))) := by
  rcases tick_cases s with ⟨_, _, e, _⟩ | ⟨_, e⟩
  · unfold writeByte rawWrite
    rw [e, Flow.bind_done]
    cases s.tick.supported a
    · exact .inr ⟨_, rfl⟩
    · exact .inl rfl
  · obtain ⟨f, hf⟩ := advance_raised e
    refine .inr ⟨f, ?_⟩
    unfold writeByte
    rw [e, Flow.bind_raised, hf]

theorem readByte_state {s t : State} {a : Word} {v : Byte} (h : readByte a s = .done v t) : t = s.tick := by
  rcases readByte_cases a s with ⟨w, e⟩ | ⟨f, e⟩ <;> rw [e] at h
  · injection h with _ h; exact h.symm
  · injection h

theorem writeByte_state {s t : State} {a : Word} {v : Byte} {w : Unit} (h : writeByte a v s = .done w t) :
    t = s.tick.busWrite a v := by
  rcases writeByte_cases a v s with e | ⟨f, e⟩ <;> rw [e] at h
  · injection h with _ h; exact h.symm
  · injection h

/-! Updates of the CPU and the accesses. -/

@[simp] theorem setCpu_dmaSafe (s : State) (k : Cpu) : (s.setCpu k).dmaSafe = s.dmaSafe := rfl
@[simp] theorem setReg_dmaSafe (s : State) (r : Reg8) (v : Byte) : (s.setReg r v).dmaSafe = s.dmaSafe := rfl
@[simp] theorem setPc_dmaSafe (s : State) (v : Word) : (s.setPc v).dmaSafe = s.dmaSafe := rfl
@[simp] theorem setSp_dmaSafe (s : State) (v : Word) : (s.setSp v).dmaSafe = s.dmaSafe := rfl
@[simp] theorem setIme_dmaSafe (s : State) (b : Bool) : (s.setIme b).dmaSafe = s.dmaSafe := rfl
@[simp] theorem setEiPending_dmaSafe (s : State) (b : Bool) : (s.setEiPending b).dmaSafe = s.dmaSafe := rfl
@[simp] theorem setHalted_dmaSafe (s : State) (b : Bool) : (s.setHalted b).dmaSafe = s.dmaSafe := rfl
@[simp] theorem setPc_supported (s : State) (v a : Word) : (s.setPc v).supported a = s.supported a := rfl
@[simp] theorem setSp_supported (s : State) (v a : Word) : (s.setSp v).supported a = s.supported a := rfl
@[simp] theorem setIme_supported (s : State) (b : Bool) (a : Word) : (s.setIme b).supported a = s.supported a := rfl
@[simp] theorem setEiPending_supported (s : State) (b : Bool) (a : Word) :
    (s.setEiPending b).supported a = s.supported a := rfl
@[simp] theorem setHalted_supported (s : State) (b : Bool) (a : Word) :
    (s.setHalted b).supported a = s.supported a := rfl

/-- No access of the I/O page and high RAM by a byte offset raises (R130, R74). -/
@[simp] theorem supported_ioOffset (s : State) (n : Byte) : s.supported (65280#16 + zext n) = true := by
  simp only [State.supported, Bool.or_eq_true, bne_iff_ne]
  right
  rw [ne_eq, regionOf_unsupported]
  have : (65280#16 + zext n).toNat = 0xFF00 + n.toNat := by
    simp [zext, BitVec.toNat_add]; omega
  omega

@[simp] theorem setReg_a_pair (s : State) (v : Byte) (rr : Pair) : (s.setReg .a v).pair rr = s.pair rr := by
  cases rr <;> rfl

/-! What a write can touch (R67): never the CPU, the parameters or the fault latch. -/

/-- `t` has the CPU, parameters and fault latch of `s`. -/
structure BusOnly (s t : State) : Prop where
  cpu : t.cpu = s.cpu
  params : t.params = s.params
  fault : t.fault = s.fault
  sink : t.sink = s.sink
  pressed : t.joypad.pressed = s.joypad.pressed
  bootActive : t.bootActive = true → s.bootActive = true

theorem BusOnly.refl (s : State) : BusOnly s s := ⟨rfl, rfl, rfl, rfl, rfl, id⟩

theorem dmaInitialize_busOnly (v : Byte) (s : State) : BusOnly s (dmaInitialize v s) := by
  unfold dmaInitialize; split
  · exact BusOnly.refl s
  · exact ⟨rfl, rfl, rfl, rfl, rfl, id⟩

theorem writeReg_busOnly (s : State) (r : IoReg) (v : Byte) : BusOnly s (writeReg s r v) := by
  cases r
  case dma => exact dmaInitialize_busOnly v s
  case boot => exact ⟨rfl, rfl, rfl, rfl, rfl, fun h => absurd h (by simp [writeReg])⟩
  all_goals exact ⟨rfl, rfl, rfl, rfl, rfl, id⟩

theorem ioWrite_busOnly (s : State) (a : Word) (v : Byte) : BusOnly s (ioWrite s a v) := by
  unfold ioWrite; split
  · exact writeReg_busOnly s _ v
  · exact BusOnly.refl s

theorem cartWriteControl_busOnly (s : State) (a : Word) (v : Byte) : BusOnly s (cartWriteControl s a v) := by
  unfold cartWriteControl; split
  · exact BusOnly.refl s
  · exact ⟨rfl, rfl, rfl, rfl, rfl, id⟩

theorem cartWriteRam_busOnly (s : State) (a : Word) (v : Byte) : BusOnly s (cartWriteRam s a v) := by
  unfold cartWriteRam; split
  · exact BusOnly.refl s
  · split
    · exact ⟨rfl, rfl, rfl, rfl, rfl, id⟩
    · exact BusOnly.refl s

theorem setMem_busOnly (s : State) (m : Memory) : BusOnly s (s.setMem m) := ⟨rfl, rfl, rfl, rfl, rfl, id⟩

theorem busWrite_busOnly (s : State) (a : Word) (v : Byte) : BusOnly s (s.busWrite a v) := by
  unfold State.busWrite
  split
  · exact cartWriteControl_busOnly s a v
  · exact cartWriteControl_busOnly s a v
  · exact setMem_busOnly s _
  · exact cartWriteRam_busOnly s a v
  · exact setMem_busOnly s _
  · exact BusOnly.refl s
  · split
    · exact BusOnly.refl s
    · exact setMem_busOnly s _
  · exact ioWrite_busOnly s a v
  · exact setMem_busOnly s _

@[simp] theorem busWrite_cpu (s : State) (a : Word) (v : Byte) : (s.busWrite a v).cpu = s.cpu := (busWrite_busOnly s a v).cpu
@[simp] theorem busWrite_params (s : State) (a : Word) (v : Byte) : (s.busWrite a v).params = s.params :=
  (busWrite_busOnly s a v).params
@[simp] theorem busWrite_fault (s : State) (a : Word) (v : Byte) : (s.busWrite a v).fault = s.fault :=
  (busWrite_busOnly s a v).fault
@[simp] theorem busWrite_sink (s : State) (a : Word) (v : Byte) : (s.busWrite a v).sink = s.sink :=
  (busWrite_busOnly s a v).sink
@[simp] theorem busWrite_pair (s : State) (a : Word) (v : Byte) (rr : Pair) : (s.busWrite a v).pair rr = s.pair rr := by
  simp [State.pair]
@[simp] theorem busWrite_reg (s : State) (a : Word) (v : Byte) (r : Reg8) : (s.busWrite a v).reg r = s.reg r := by
  simp [State.reg]
@[simp] theorem busWrite_supported (s : State) (a b : Word) (v : Byte) :
    (s.busWrite a v).supported b = s.supported b := by simp [State.supported]

/-- The memory after a write: the byte's cell, or as it was. -/
theorem busWrite_mem (s : State) (a : Word) (v : Byte) :
    (s.busWrite a v).mem = s.mem ∨
      ((s.busWrite a v).mem = s.mem.write a v ∧ isRam a.toNat = true) := by
  have io : (ioWrite s a v).mem = s.mem := by
    unfold ioWrite
    split
    · next r _ => cases r <;> first | rfl | (simp only [writeReg, dmaInitialize]; split <;> rfl)
    · rfl
  have control : (cartWriteControl s a v).mem = s.mem := by unfold cartWriteControl; split <;> rfl
  have ram : (cartWriteRam s a v).mem = s.mem := by
    unfold cartWriteRam; split
    · rfl
    · split <;> rfl
  unfold State.busWrite
  split
  · exact .inl control
  · exact .inl control
  · next h => exact .inr ⟨rfl, isRam_of_region (.inl h)⟩
  · exact .inl ram
  · next h => exact .inr ⟨rfl, isRam_of_region (.inr (.inl h))⟩
  · exact .inl rfl
  · next h =>
    split
    · exact .inl rfl
    · exact .inr ⟨rfl, isRam_of_region (.inr (.inr (.inl h)))⟩
  · exact .inl io
  · next h => exact .inr ⟨rfl, isRam_of_region (.inr (.inr (.inr h)))⟩

/-! Which write starts a transfer: that to 0xFF46 (R316), and no other. -/

theorem ioRegAt_dma {a : Word} (h : ioRegAt a = some .dma) : a = 0xFF46 := by
  unfold ioRegAt ioTable at h
  simp only [List.lookup] at h
  repeat' (split at h <;> first | (exact absurd h (by decide)) | skip)
  all_goals simp_all

/-- A write elsewhere leaves the DMA engine. -/
theorem busWrite_dma (s : State) {a : Word} (v : Byte) (ha : a ≠ 0xFF46) : (s.busWrite a v).dma = s.dma := by
  have io : (ioWrite s a v).dma = s.dma := by
    unfold ioWrite
    split
    · next r hr => cases r <;> first | rfl | exact absurd (ioRegAt_dma hr) ha
    · rfl
  have control : (cartWriteControl s a v).dma = s.dma := by unfold cartWriteControl; split <;> rfl
  have ram : (cartWriteRam s a v).dma = s.dma := by
    unfold cartWriteRam; split
    · rfl
    · split <;> rfl
  unfold State.busWrite
  split <;> first | exact control | exact ram | exact io | rfl | (split <;> rfl)

/-- The first byte of a word whose second address is unsupported starts no transfer: it is not at 0xFF46. -/
theorem busWrite_dmaSafe_of_next {s : State} {a : Word} (v : Byte) (h : s.dmaSafe = true) (hb : s.supported (a + 1) = false) :
    (s.busWrite a v).dmaSafe = true := by
  have ha : a ≠ 0xFF46 := by
    rintro rfl
    exact absurd (hb.symm.trans (supported_ioOffset s 0x47)) (by decide)
  simpa only [State.dmaSafe, busWrite_dma s v ha, busWrite_params] using h

/-! Words and the stack. -/

/-- A word read: two bytes, the low one first (R64). -/
theorem readWord_done {s : State} {a : Word} (h : s.dmaSafe = true) (ha : s.supported a = true)
    (hb : s.supported (a + 1) = true) :
    readWord a s = .done (word (s.tick.tick.busByte (a + 1)) (s.tick.busByte a)) s.tick.tick := by
  rw [readWord, readByte_done h ha, Flow.bind_done, readByte_done (tick_dmaSafe h) (by rw [tick_supported, hb])]
  rfl

/-- A word written, where the first byte starts no raising transfer (R65). -/
theorem writeWord_done {s : State} {a : Word} (v : Word) (h : s.dmaSafe = true) (ha : s.supported a = true)
    (hb : s.supported (a + 1) = true) (hm : (s.tick.busWrite a (lo v)).dmaSafe = true) :
    writeWord a v s = .done () ((s.tick.busWrite a (lo v)).tick.busWrite (a + 1) (hi v)) := by
  rw [writeWord, writeByte_done _ h ha, Flow.bind_done, writeByte_done _ hm (by rw [busWrite_supported, tick_supported, hb])]

/-- A word write whose second byte faults: the first has been written (R293). -/
theorem writeWord_raised_high {s : State} {a : Word} (v : Word) (h : s.dmaSafe = true) (ha : s.supported a = true)
    (hb : s.supported (a + 1) = false) :
    writeWord a v s = .raised (raiseFault (.unsupportedAddress (a + 1) .write) (s.tick.busWrite a (lo v)).tick) := by
  have hm : (s.tick.busWrite a (lo v)).dmaSafe = true :=
    busWrite_dmaSafe_of_next _ (tick_dmaSafe h) (by rw [tick_supported, hb])
  rw [writeWord, writeByte_done _ h ha, Flow.bind_done, writeByte_raised _ hm (by rw [busWrite_supported, tick_supported, hb])]

/-- A word write whose first byte faults. -/
theorem writeWord_raised {s : State} {a : Word} (v : Word) (h : s.dmaSafe = true) (ha : s.supported a = false) :
    writeWord a v s = .raised (raiseFault (.unsupportedAddress a .write) s.tick) := by
  rw [writeWord, writeByte_raised _ h ha, Flow.bind_raised]

theorem word_sub_two (a : Word) : a - 2 + 1 = a - 1 := by
  have h : a - 2 = a - 1 - 1 := by rw [BitVec.sub_sub]; rfl
  rw [h, BitVec.sub_add_cancel]

/-- The state after the low byte of a push (R150). -/
def afterPushLow (v : Word) (s : State) : State :=
  (s.setSp (s.cpu.sp - 2)).tick.busWrite (s.cpu.sp - 2) (lo v)

/-- A push (R150). -/
theorem pushWord_done {s : State} (v : Word) (h : s.dmaSafe = true) (ha : s.supported (s.cpu.sp - 2) = true)
    (hb : s.supported (s.cpu.sp - 1) = true) (hm : (afterPushLow v s).dmaSafe = true) :
    pushWord v s = .done () ((afterPushLow v s).tick.busWrite (s.cpu.sp - 1) (hi v)) := by
  have k := writeWord_done (s := s.setSp (s.cpu.sp - 2)) (a := s.cpu.sp - 2) v h ha (by rw [word_sub_two]; exact hb) hm
  rw [word_sub_two] at k
  exact k

/-- A push whose low byte faults: `sp` has moved (R293). -/
theorem pushWord_raised {s : State} (v : Word) (h : s.dmaSafe = true) (ha : s.supported (s.cpu.sp - 2) = false) :
    pushWord v s =
      .raised (raiseFault (.unsupportedAddress (s.cpu.sp - 2) .write) (s.setSp (s.cpu.sp - 2)).tick) :=
  writeWord_raised (s := s.setSp (s.cpu.sp - 2)) (a := s.cpu.sp - 2) v h ha

/-- A push whose high byte faults: `sp` has moved and the low byte is stored (R293). -/
theorem pushWord_raised_high {s : State} (v : Word) (h : s.dmaSafe = true) (ha : s.supported (s.cpu.sp - 2) = true)
    (hb : s.supported (s.cpu.sp - 1) = false) :
    pushWord v s = .raised (raiseFault (.unsupportedAddress (s.cpu.sp - 1) .write) (afterPushLow v s).tick) := by
  have k := writeWord_raised_high (s := s.setSp (s.cpu.sp - 2)) (a := s.cpu.sp - 2) v h ha (by rw [word_sub_two]; exact hb)
  rw [word_sub_two] at k
  exact k

/-- A pop (R151). -/
theorem popWord_done {s : State} (h : s.dmaSafe = true) (ha : s.supported s.cpu.sp = true)
    (hb : s.supported (s.cpu.sp + 1) = true) :
    popWord s = .done (word (s.tick.tick.busByte (s.cpu.sp + 1)) (s.tick.busByte s.cpu.sp))
      (s.tick.tick.setSp (s.cpu.sp + 2)) := by
  rw [popWord, readWord_done h ha hb, Flow.bind_done]
  simp

/-- A pop whose low byte faults: `sp` has not moved (R293). -/
theorem popWord_raised {s : State} (h : s.dmaSafe = true) (ha : s.supported s.cpu.sp = false) :
    popWord s = .raised (raiseFault (.unsupportedAddress s.cpu.sp .read) s.tick) := by
  rw [popWord, readWord, readByte_raised h ha]
  rfl

/-- A pop whose high byte faults: `sp` has not moved (R293). -/
theorem popWord_raised_high {s : State} (h : s.dmaSafe = true) (ha : s.supported s.cpu.sp = true)
    (hb : s.supported (s.cpu.sp + 1) = false) :
    popWord s = .raised (raiseFault (.unsupportedAddress (s.cpu.sp + 1) .read) s.tick.tick) := by
  rw [popWord, readWord, readByte_done h ha, Flow.bind_done, readByte_raised (tick_dmaSafe h) (by rw [tick_supported, hb])]
  rfl

/-- An immediate byte (R104). -/
theorem imm8_done {s : State} (h : s.dmaSafe = true) (ha : s.supported s.cpu.pc = true) :
    imm8 s = .done (s.tick.busByte s.cpu.pc) (s.tick.setPc (s.cpu.pc + 1)) := by
  rw [imm8, readByte_done h ha, Flow.bind_done]
  simp

/-- An immediate byte that faults: `pc` has not moved (R292). -/
theorem imm8_raised {s : State} (h : s.dmaSafe = true) (ha : s.supported s.cpu.pc = false) :
    imm8 s = .raised (raiseFault (.unsupportedAddress s.cpu.pc .read) s.tick) := by
  rw [imm8, readByte_raised h ha, Flow.bind_raised]

end Sys2Proof.Machine
end

