-- ==== Sys2Proof/Laws/Form.lean ====
section
/-! SUPPORT. The meaning of an instruction depends on its form only: the case split over the 512 constructors, made once. -/

namespace Sys2Proof.Machine

/-- The shared operation of each form. -/
def execForm : Form → State → Result
  | .ld d s => load8 d s
  | .ldImm d n => loadImm8 d n
  | .ldA m => loadA m
  | .stA m => storeA m
  | .ldPair rr nn => loadPair rr nn
  | .ldNnSP nn => storeSP nn
  | .ldSPHL => loadSPHL
  | .ldHLSPe e => loadHLSPe e
  | .push qq => pushPair qq
  | .pop qq => popPair qq
  | .alu op s => alu8 op s
  | .aluImm op n => aluImm8 op n
  | .inc d => inc8 d
  | .dec d => dec8 d
  | .daa => decimalAdjust
  | .cpl => complementA
  | .scf => setCarry
  | .ccf => complementCarry
  | .addHL rr => addHL rr
  | .incPair rr => incPair rr
  | .decPair rr => decPair rr
  | .addSP e => addSP e
  | .rlca => rotateA .rlc
  | .rrca => rotateA .rrc
  | .rla => rotateA .rl
  | .rra => rotateA .rr
  | .rot k s => rotate8 k s
  | .bit b s => testBit b s
  | .res b s => resetBit b s
  | .set b s => setBit b s
  | .jp nn => jump nn
  | .jpCC cc nn => jumpIf cc nn
  | .jpHL => jumpHL
  | .jr e => jumpRel e
  | .jrCC cc e => jumpRelIf cc e
  | .call nn => call nn
  | .callCC cc nn => callIf cc nn
  | .ret => ret
  | .retCC cc => returnIf cc
  | .reti => reti
  | .rst t => restart t
  | .nop => noOperation
  | .halt => haltCpu
  | .stop n => stopCpu n
  | .di => disableInterrupts
  | .ei => enableInterrupts
  | .prefixCB op2 => extended op2
  | .undefined op => undefinedOpcode op

theorem exec_eq_execForm (i : Instr) (s : State) : exec i s = execForm i.form s := by
  cases i <;> rfl

/-- An instruction of a form runs that form's operation. -/
theorem exec_of_form {i : Instr} {f : Form} (h : i.form = f) (s : State) : exec i s = execForm f s := by
  rw [exec_eq_execForm, h]

end Sys2Proof.Machine
end

