-- ==== Sys2Proof/Laws/Decode.lean ====
section
/-! SUPPORT. The opcode maps read beside the field patterns: the extended space by its fields, and the encoder on every entry of both
maps. -/

namespace Sys2Proof.Machine

/-- The form of an extended opcode, by its fields (R101, R112). -/
def extendedForm (op2 : Byte) : Form :=
  let y := op2.extractLsb' 3 3
  let o := R8.ofCode (op2.extractLsb' 0 3)
  match op2.extractLsb' 6 2 with
  | 0#2 => .rot (RotOp.ofCode y) o
  | 1#2 => .bit y o
  | 2#2 => .res y o
  | 3#2 => .set y o

set_option maxRecDepth 10000 in
/-- The map of R112 agrees with the fields, entry by entry. -/
theorem decodeExtended_form : ∀ op2 : Byte, (decodeExtended op2).form = extendedForm op2 := by decide +kernel

/-- The prefix's dispatch (R265) by form. -/
theorem extended_eq (op2 : Byte) (s : State) : extended op2 s = execForm (extendedForm op2) s := by
  unfold extended extendedForm
  dsimp only
  generalize op2.extractLsb' 6 2 = x
  split <;> rfl

set_option maxRecDepth 10000 in
/-- Every extended opcode encodes to itself. -/
theorem encode_decodeExtended : ∀ op2 : Byte,
    encode (decodeExtended op2) = [prefixByte, op2] ∧ (decodeExtended op2).wellFormed = true := by decide +kernel

set_option maxRecDepth 10000 in
/-- Every one-byte instruction of the standard space encodes to its opcode. -/
theorem encode_length_one : ∀ op : Byte, instrLength op = 1 → op ≠ prefixByte →
    encode (decodeStandard op 0 0) = [op] ∧ (decodeStandard op 0 0).wellFormed = true := by decide +kernel

/-- The opcodes of length 2 but for the prefix (R108). -/
def twoByteOpcodes : List Byte := [
  0x06, 0x0E, 0x16, 0x1E, 0x26, 0x2E, 0x36, 0x3E, 0x10, 0x18, 0x20, 0x28, 0x30, 0x38,
  0xC6, 0xCE, 0xD6, 0xDE, 0xE6, 0xEE, 0xF6, 0xFE, 0xE0, 0xF0, 0xE8, 0xF8]

/-- The opcodes of length 3 (R108). -/
def threeByteOpcodes : List Byte := [
  0x01, 0x11, 0x21, 0x31, 0x08, 0xC2, 0xC3, 0xC4, 0xCA, 0xCC, 0xCD, 0xD2, 0xD4, 0xDA, 0xDC, 0xEA, 0xFA]

set_option maxRecDepth 10000 in
theorem instrLength_cases : ∀ op : Byte,
    instrLength op = 1 ∨ (instrLength op = 2 ∧ (op = prefixByte ∨ op ∈ twoByteOpcodes)) ∨
      (instrLength op = 3 ∧ op ≠ prefixByte ∧ op ∈ threeByteOpcodes) := by decide +kernel

theorem encode_length_two {op : Byte} (h : op ∈ twoByteOpcodes) (b1 : Byte) :
    encode (decodeStandard op b1 0) = [op, b1] ∧ (decodeStandard op b1 0).wellFormed = true := by
  simp only [twoByteOpcodes, List.mem_cons, List.not_mem_nil, or_false] at h
  rcases h with h | h | h | h | h | h | h | h | h | h | h | h | h | h | h | h | h | h | h | h | h | h | h | h | h | h <;>
    subst h <;> exact ⟨rfl, rfl⟩

theorem lo_hi_word (h l : Byte) : [lo (word h l), hi (word h l)] = [l, h] := by simp

theorem encode_length_three {op : Byte} (h : op ∈ threeByteOpcodes) (b1 b2 : Byte) :
    encode (decodeStandard op b1 b2) = [op, b1, b2] ∧ (decodeStandard op b1 b2).wellFormed = true := by
  simp only [threeByteOpcodes, List.mem_cons, List.not_mem_nil, or_false] at h
  rcases h with h | h | h | h | h | h | h | h | h | h | h | h | h | h | h | h | h <;>
    subst h <;> exact ⟨congrArg (_ :: ·) (lo_hi_word b2 b1), rfl⟩

end Sys2Proof.Machine
end

