-- ==== Sys2Proof/Laws/Flags.lean ====
section
/-! SUPPORT. The ALU functions over the integers: one lemma per function, so that no caller unfolds the bit-vector forms. -/

namespace Sys2Proof.Machine

theorem nibble_eq (v : Byte) : nibble v = v.toNat % 16 := by simp [nibble]

theorem zero_iff (v : Byte) : (v == 0) = decide (v = 0) := rfl

/-- `Add8` (R160). -/
theorem add8_eq (a b : Byte) (cin : Bool) :
    add8 a b cin =
      (BitVec.ofNat 8 (a.toNat + b.toNat + cin.toNat),
        { z := decide (BitVec.ofNat 8 (a.toNat + b.toNat + cin.toNat) = 0), n := false
          h := decide (0xF < a.toNat % 16 + b.toNat % 16 + cin.toNat)
          c := decide (0xFF < a.toNat + b.toNat + cin.toNat) }) := by
  have ht : (a.setWidth 9 + b.setWidth 9 + (flagBit cin).setWidth 9 : BitVec 9).toNat = a.toNat + b.toNat + cin.toNat := by
    have := a.isLt
    have := b.isLt
    cases cin <;> simp [flagBit] <;> omega
  have hr : (a.setWidth 9 + b.setWidth 9 + (flagBit cin).setWidth 9 : BitVec 9).extractLsb' 0 8 =
      BitVec.ofNat 8 (a.toNat + b.toNat + cin.toNat) := by
    apply BitVec.eq_of_toNat_eq
    rw [BitVec.extractLsb'_toNat, ht]; simp
  have hc : (a.setWidth 9 + b.setWidth 9 + (flagBit cin).setWidth 9 : BitVec 9).getLsbD 8 =
      decide (0xFF < a.toNat + b.toNat + cin.toNat) := by
    have := a.isLt
    have := b.isLt
    have : cin.toNat ≤ 1 := by cases cin <;> decide
    rw [BitVec.getLsbD, ht, Nat.testBit_eq_decide_div_mod_eq]
    congr 1
    apply propext
    omega
  simp only [add8, hr, hc, nibble_eq, zero_iff]

theorem ofInt_toNat_sub (a b : Byte) (cin : Bool) :
    a - b - (flagBit cin).setWidth 8 = BitVec.ofInt 8 ((a.toNat : Int) - b.toNat - cin.toNat) := by
  apply BitVec.eq_of_toInt_eq
  rw [BitVec.toInt_sub, BitVec.toInt_sub, BitVec.toInt_ofInt]
  have h : ((flagBit cin).setWidth 8 : Byte).toInt = cin.toNat := by cases cin <;> rfl
  rw [h]
  have ha : a.toInt = (a.toNat : Int).bmod 256 := by rw [BitVec.toInt_eq_toNat_bmod]
  have hb : b.toInt = (b.toNat : Int).bmod 256 := by rw [BitVec.toInt_eq_toNat_bmod]
  rw [ha, hb]
  simp

/-- `Sub8` (R160). -/
theorem sub8_eq (a b : Byte) (cin : Bool) :
    sub8 a b cin =
      (BitVec.ofInt 8 ((a.toNat : Int) - b.toNat - cin.toNat),
        { z := decide (((a.toNat : Int) - b.toNat - cin.toNat) % 256 = 0), n := true
          h := decide (a.toNat % 16 < b.toNat % 16 + cin.toNat), c := decide (a.toNat < b.toNat + cin.toNat) }) := by
  simp only [sub8, ofInt_toNat_sub, nibble_eq, zero_iff]
  congr 2
  have : ∀ n : Int, (BitVec.ofInt 8 n = (0 : Byte)) ↔ n % 256 = 0 := by
    intro n
    rw [← BitVec.toNat_inj]
    simp only [BitVec.toNat_ofInt]
    simp
    omega
  simp only [this]

/-- `Inc8` (R160). -/
theorem increment8_eq (a : Byte) (f : Flags) :
    increment8 a f = (BitVec.ofNat 8 (a.toNat + 1), ⟨decide (a.toNat = 255), false, decide (a.toNat % 16 = 15), f.c⟩) := by
  have hr : a + 1 = BitVec.ofNat 8 (a.toNat + 1) := by
    apply BitVec.eq_of_toNat_eq; simp [BitVec.toNat_add]
  have hz : (BitVec.ofNat 8 (a.toNat + 1) = (0 : Byte)) ↔ a.toNat = 255 := by
    have := a.isLt
    rw [← BitVec.toNat_inj]; simp; omega
  simp only [increment8, hr, zero_iff, hz, nibble_eq]
  congr 2

/-- `Dec8` (R160). -/
theorem decrement8_eq (a : Byte) (f : Flags) :
    decrement8 a f = (BitVec.ofNat 8 (a.toNat + 255), ⟨decide (a.toNat = 1), true, decide (a.toNat % 16 = 0), f.c⟩) := by
  have hr : a - 1 = BitVec.ofNat 8 (a.toNat + 255) := by
    apply BitVec.eq_of_toNat_eq; simp [BitVec.toNat_sub]; omega
  have hz : (BitVec.ofNat 8 (a.toNat + 255) = (0 : Byte)) ↔ a.toNat = 1 := by
    have := a.isLt
    rw [← BitVec.toNat_inj]; simp; omega
  simp only [decrement8, hr, zero_iff, hz, nibble_eq]
  congr 2

/-- `SpPlusE` (R200). -/
theorem spPlusE_eq (sp : Word) (e : Byte) :
    spPlusE sp e =
      (BitVec.ofInt 16 (sp.toNat + e.toInt),
        { z := false, n := false, h := decide (0xF < sp.toNat % 16 + e.toNat % 16)
          c := decide (0xFF < sp.toNat % 256 + e.toNat) }) := by
  have h1 : sp + sext e = BitVec.ofInt 16 (sp.toNat + e.toInt) := by
    rw [BitVec.ofInt_add, sext, BitVec.signExtend]
    congr 1
    simp
  simp only [spPlusE, h1, Prod.mk.injEq, true_and]
  congr 1; simp [nibble, lo]

/-- The sum of `ADD HL,rr` (R201). -/
theorem add16_eq (a b : Word) (f : Flags) :
    add16 a b f =
      (BitVec.ofNat 16 (a.toNat + b.toNat),
        { z := f.z, n := false, h := decide (0xFFF < a.toNat % 4096 + b.toNat % 4096)
          c := decide (0xFFFF < a.toNat + b.toNat) }) := by
  have ht : (a.setWidth 17 + b.setWidth 17 : BitVec 17).toNat = a.toNat + b.toNat := by
    have := a.isLt
    have := b.isLt
    simp; omega
  have hr : (a.setWidth 17 + b.setWidth 17 : BitVec 17).extractLsb' 0 16 = BitVec.ofNat 16 (a.toNat + b.toNat) := by
    apply BitVec.eq_of_toNat_eq
    rw [BitVec.extractLsb'_toNat, ht]; simp
  have hc : (a.setWidth 17 + b.setWidth 17 : BitVec 17).getLsbD 16 = decide (0xFFFF < a.toNat + b.toNat) := by
    have := a.isLt
    have := b.isLt
    rw [BitVec.getLsbD, ht, Nat.testBit_eq_decide_div_mod_eq]
    congr 1
    apply propext
    omega
  simp only [add16, hr, hc]
  congr 2

end Sys2Proof.Machine
end

