-- ==== Sys2Proof/Laws/Reach.lean ====
section
/-! SUPPORT. Said once: everything a step can do. `Reach W s t` holds when `t` comes from `s` by updates of the CPU, ticks, byte
writes at addresses of `W`, acknowledges and latched faults; every instruction stays within it with the addresses it stores to, and
every step with all addresses. An invariant of the machine outside the CPU needs one lemma per constructor. -/

namespace Sys2Proof.Machine

inductive Reach (W : Word → Prop) : State → State → Prop where
  | refl (s : State) : Reach W s s
  | cpu {s t : State} (k : Cpu) : Reach W s t → Reach W s (t.setCpu k)
  | tick {s t : State} : Reach W s t → Reach W s t.tick
  | write {s t : State} (a : Word) (v : Byte) : W a → Reach W s t → Reach W s (t.busWrite a v)
  | ack {s t : State} (i : Source) : Reach W s t → Reach W s (resetInterrupt i t)
  | fault {s t : State} (f : Fault) : Reach W s t → Reach W s (t.setFault (some f))

theorem Reach.trans {W : Word → Prop} {s t u : State} (h : Reach W s t) (k : Reach W t u) : Reach W s u := by
  induction k with
  | refl => exact h
  | cpu k _ ih => exact ih.cpu k
  | tick _ ih => exact ih.tick
  | write a v hw _ ih => exact ih.write a v hw
  | ack i _ ih => exact ih.ack i
  | fault f _ ih => exact ih.fault f

theorem Reach.mono {W W' : Word → Prop} {s t : State} (hW : ∀ a, W a → W' a) (h : Reach W s t) : Reach W' s t := by
  induction h with
  | refl => exact .refl _
  | cpu k _ ih => exact ih.cpu k
  | tick _ ih => exact ih.tick
  | write a v hw _ ih => exact ih.write a v (hW a hw)
  | ack i _ ih => exact ih.ack i
  | fault f _ ih => exact ih.fault f

section
variable {W : Word → Prop} {s t : State}

theorem Reach.of_bind {α β : Type} {x : Flow α} {f : α → State → Flow β} (hx : Reach W s x.state)
    (hf : ∀ v u, x = .done v u → Reach W s u → Reach W s (f v u).state) : Reach W s (x.bind f).state := by
  cases x with
  | done v u => exact hf v u rfl hx
  | raised u => exact hx

theorem readByte_reach (a : Word) (h : Reach W s t) : Reach W s (readByte a t).state := by
  rcases readByte_cases a t with ⟨v, e⟩ | ⟨f, e⟩ <;> rw [e]
  · exact h.tick
  · exact h.tick.fault f

theorem writeByte_reach {a : Word} (v : Byte) (ha : W a) (h : Reach W s t) : Reach W s (writeByte a v t).state := by
  rcases writeByte_cases a v t with e | ⟨f, e⟩ <;> rw [e]
  · exact h.tick.write a v ha
  · exact h.tick.fault f

theorem readWord_reach (a : Word) (h : Reach W s t) : Reach W s (readWord a t).state :=
  Reach.of_bind (readByte_reach a h) fun _ _ _ h => Reach.of_bind (readByte_reach _ h) fun _ _ _ h => h

theorem writeWord_reach {a : Word} (v : Word) (ha : W a) (hb : W (a + 1)) (h : Reach W s t) :
    Reach W s (writeWord a v t).state :=
  Reach.of_bind (writeByte_reach _ ha h) fun _ _ _ h => writeByte_reach _ hb h

theorem imm8_reach (h : Reach W s t) : Reach W s (imm8 t).state :=
  Reach.of_bind (readByte_reach _ h) fun _ _ _ h => h.cpu _

theorem pushWord_reach (v : Word) (ha : W (t.cpu.sp - 2)) (hb : W (t.cpu.sp - 1)) (h : Reach W s t) :
    Reach W s (pushWord v t).state :=
  writeWord_reach (a := t.cpu.sp - 2) v ha (by rw [word_sub_two]; exact hb) (h.cpu _)

theorem popWord_reach (h : Reach W s t) : Reach W s (popWord t).state :=
  Reach.of_bind (readWord_reach _ h) fun _ _ _ h => h.cpu _

theorem returnWord_reach (h : Reach W s t) : Reach W s (returnWord t).state :=
  Reach.of_bind (popWord_reach h) fun _ _ _ h => h.cpu _

theorem readR8_reach (o : R8) (h : Reach W s t) : Reach W s (readR8 o t).state := by
  cases o
  · exact h
  · exact readByte_reach _ h

/-- An operand read leaves the CPU alone. -/
theorem readR8_cpu {o : R8} {v : Byte} {u : State} (h : readR8 o t = .done v u) : u.cpu = t.cpu := by
  cases o
  · injection h with _ h; rw [← h]
  · rw [readByte_state h, tick_cpu]

theorem writeR8_reach {o : R8} (v : Byte) (ho : o = .atHL → W (t.pair .hl)) (h : Reach W s t) :
    Reach W s (writeR8 o v t).state := by
  cases o
  · exact h.cpu _
  · exact writeByte_reach v (ho rfl) h

theorem accUpdate_reach (m : AccMem) (h : Reach W s t) : Reach W s (accUpdate m t) := by
  cases m <;> first | exact h | exact h.cpu _

theorem fetch_reach (h : Reach W s t) : Reach W s (fetch t).state :=
  Reach.of_bind (imm8_reach h) fun op _ _ h => by
    split
    · exact Reach.of_bind (imm8_reach h) fun _ _ _ h => h
    · split
      · exact Reach.of_bind (imm8_reach h) fun _ _ _ h => h
      · exact Reach.of_bind (imm8_reach h) fun _ _ _ h => Reach.of_bind (imm8_reach h) fun _ _ _ h => h
      · exact h

end

/-- A result that is a next state within reach of `s`. -/
def NextFrom (W : Word → Prop) (s : State) (r : Result) : Prop := ∃ t, r = .next t ∧ Reach W s t

section
variable {W : Word → Prop} {s : State}

theorem nextFrom_outcome {α : Type} {x : Flow α} (h : Reach W s x.state) : NextFrom W s x.outcome := ⟨_, rfl, h⟩

theorem nextFrom_next {t : State} (h : Reach W s t) : NextFrom W s (.next t) := ⟨t, rfl, h⟩


theorem modify8_next {o : R8} (ho : o = .atHL → W (s.pair .hl)) (f : Byte → Flags → Byte × Flags) :
    NextFrom W s (modify8 o f s) :=
  nextFrom_outcome <| Reach.of_bind (readR8_reach o (.refl s)) fun _ _ e h =>
    Reach.of_bind (writeR8_reach _ (fun a => by rw [State.pair, readR8_cpu e]; exact ho a) h) fun _ _ _ h => h.cpu _

theorem call_next {nn : Word} (ha : W (s.cpu.sp - 2)) (hb : W (s.cpu.sp - 1)) : NextFrom W s (call nn s) :=
  nextFrom_outcome <| Reach.of_bind (pushWord_reach _ ha hb (.refl s)) fun _ _ _ h => h.cpu _

theorem testBit_next (b : BitVec 3) (o : R8) : NextFrom W s (testBit b o s) :=
  nextFrom_outcome <| Reach.of_bind (readR8_reach o (.refl s)) fun _ _ _ h => h.cpu _

theorem resetBit_next (b : BitVec 3) {o : R8} (ho : o = .atHL → W (s.pair .hl)) : NextFrom W s (resetBit b o s) :=
  nextFrom_outcome <| Reach.of_bind (readR8_reach o (.refl s)) fun _ _ e h =>
    writeR8_reach _ (fun a => by rw [State.pair, readR8_cpu e]; exact ho a) h

theorem setBit_next (b : BitVec 3) {o : R8} (ho : o = .atHL → W (s.pair .hl)) : NextFrom W s (setBit b o s) :=
  nextFrom_outcome <| Reach.of_bind (readR8_reach o (.refl s)) fun _ _ e h =>
    writeR8_reach _ (fun a => by rw [State.pair, readR8_cpu e]; exact ho a) h

theorem ret_next : NextFrom W s (ret s) := nextFrom_outcome (returnWord_reach (.refl s))

end

/-- Every form but the prefix's answers a next state within reach, with no write but to the addresses it stores to. -/
theorem execForm_next (f : Form) (s : State) (hf : ∀ op2, f ≠ .prefixCB op2) :
    NextFrom (· ∈ storesTo f s) s (execForm f s) := by
  have r {W : Word → Prop} := Reach.refl (W := W) s
  cases f
  case prefixCB op2 => exact absurd rfl (hf op2)
  case ld d o =>
    exact nextFrom_outcome <| Reach.of_bind (readR8_reach o r) fun v _ e h =>
      writeR8_reach v (fun a => by subst a; rw [State.pair, readR8_cpu e]; exact List.mem_singleton.mpr rfl) h
  case ldImm d n => exact nextFrom_outcome (writeR8_reach n (fun a => by subst a; exact List.mem_singleton.mpr rfl) r)
  case ldA m => exact nextFrom_outcome <| Reach.of_bind (readByte_reach _ r) fun _ _ _ h => accUpdate_reach m (h.cpu _)
  case stA m =>
    exact nextFrom_outcome <| Reach.of_bind (writeByte_reach _ (List.mem_singleton.mpr rfl) r) fun _ _ _ h =>
      accUpdate_reach m h
  case ldPair => exact nextFrom_next (r.cpu _)
  case ldNnSP nn => exact nextFrom_outcome (writeWord_reach _ (by simp [storesTo]) (by simp [storesTo]) r)
  case ldSPHL => exact nextFrom_next (r.cpu _)
  case ldHLSPe => exact nextFrom_next ((r.cpu _).cpu _)
  case push => exact nextFrom_outcome (pushWord_reach _ (by simp [storesTo]) (by simp [storesTo]) r)
  case pop => exact nextFrom_outcome <| Reach.of_bind (popWord_reach r) fun _ _ _ h => h.cpu _
  case alu op o => exact nextFrom_outcome <| Reach.of_bind (readR8_reach o r) fun _ _ _ h => (h.cpu _).cpu _
  case aluImm => exact nextFrom_next ((r.cpu _).cpu _)
  case inc d => exact modify8_next (fun a => by subst a; exact List.mem_singleton.mpr rfl) increment8
  case dec d => exact modify8_next (fun a => by subst a; exact List.mem_singleton.mpr rfl) decrement8
  case daa => exact nextFrom_next ((r.cpu _).cpu _)
  case cpl => exact nextFrom_next ((r.cpu _).cpu _)
  case scf => exact nextFrom_next (r.cpu _)
  case ccf => exact nextFrom_next (r.cpu _)
  case addHL => exact nextFrom_next ((r.cpu _).cpu _)
  case incPair => exact nextFrom_next (r.cpu _)
  case decPair => exact nextFrom_next (r.cpu _)
  case addSP => exact nextFrom_next ((r.cpu _).cpu _)
  case rlca => exact nextFrom_next ((r.cpu _).cpu _)
  case rrca => exact nextFrom_next ((r.cpu _).cpu _)
  case rla => exact nextFrom_next ((r.cpu _).cpu _)
  case rra => exact nextFrom_next ((r.cpu _).cpu _)
  case rot k o => exact modify8_next (fun a => by subst a; exact List.mem_singleton.mpr rfl) (rotate k)
  case bit b o => exact testBit_next b o
  case res b o => exact resetBit_next b (fun a => by subst a; exact List.mem_singleton.mpr rfl)
  case set b o => exact setBit_next b (fun a => by subst a; exact List.mem_singleton.mpr rfl)
  case jp => exact nextFrom_next (r.cpu _)
  case jpCC =>
    show NextFrom _ s (jumpIf _ _ s)
    unfold jumpIf; split
    · exact nextFrom_next (r.cpu _)
    · exact nextFrom_next r
  case jpHL => exact nextFrom_next (r.cpu _)
  case jr => exact nextFrom_next (r.cpu _)
  case jrCC =>
    show NextFrom _ s (jumpRelIf _ _ s)
    unfold jumpRelIf; split
    · exact nextFrom_next (r.cpu _)
    · exact nextFrom_next r
  case call => exact call_next (by simp [storesTo]) (by simp [storesTo])
  case callCC cc nn =>
    show NextFrom _ s (callIf _ _ s)
    unfold callIf
    cases hc : s.cpu.holds cc
    · exact nextFrom_next r
    · exact call_next (by simp [storesTo, hc]) (by simp [storesTo, hc])
  case ret => exact ret_next
  case retCC =>
    show NextFrom _ s (returnIf _ s)
    unfold returnIf; split
    · exact ret_next
    · exact nextFrom_next r
  case reti => exact nextFrom_outcome <| Reach.of_bind (returnWord_reach r) fun _ _ _ h => h.cpu _
  case rst => exact call_next (by simp [storesTo]) (by simp [storesTo])
  case nop => exact nextFrom_next r
  case halt => exact nextFrom_next (r.cpu _)
  case stop n =>
    show NextFrom _ s (stopCpu n s)
    unfold stopCpu; split
    · exact nextFrom_next (r.cpu _)
    · exact nextFrom_next (r.fault _)
  case di => exact nextFrom_next ((r.cpu _).cpu _)
  case ei => exact nextFrom_next (r.cpu _)
  case undefined => exact nextFrom_next (r.fault _)

/-- The form whose effect an instruction has is never the prefix's. -/
theorem effectForm_ne_prefix (i : Instr) (op2 : Byte) : effectForm i ≠ .prefixCB op2 := by
  unfold effectForm
  split
  · next op _ =>
    rw [decodeExtended_form]
    unfold extendedForm
    dsimp only
    generalize op.extractLsb' 6 2 = x
    split <;> exact fun h => Form.noConfusion h
  · next h => exact h op2

/-- The row `PREFIX CB` included, an instruction runs its effect's form. -/
theorem exec_eq_effectForm (i : Instr) (s : State) : exec i s = execForm (effectForm i) s := by
  rw [exec_eq_execForm]
  unfold effectForm
  split
  · next op2 h => rw [h, decodeExtended_form, ← extended_eq]; rfl
  · rfl

/-- An instruction that makes no data access and whose effect is not to raise changes the CPU only. -/
theorem execForm_noAccess (f : Form) (s : State) (hd : dataAccesses f s = 0) (hu : ∀ op, f ≠ .undefined op)
    (hs : ∀ n, f ≠ .stop n) (hp : ∀ op2, f ≠ .prefixCB op2) : ∃ k, execForm f s = .next (s.setCpu k) := by
  have same : ∃ k, (Host.Outcome.next s : Result) = .next (s.setCpu k) := ⟨s.cpu, rfl⟩
  cases f
  case prefixCB op2 => exact absurd rfl (hp op2)
  case undefined op => exact absurd rfl (hu op)
  case stop n => exact absurd rfl (hs n)
  case callCC cc nn =>
    rw [show dataAccesses (.callCC cc nn) s = if s.cpu.holds cc then 2 else 0 from rfl] at hd
    rw [execForm, callIf, if_neg fun h => by rw [h] at hd; cases hd]
    exact same
  case retCC cc =>
    rw [show dataAccesses (.retCC cc) s = if s.cpu.holds cc then 2 else 0 from rfl] at hd
    rw [execForm, returnIf, if_neg fun h => by rw [h] at hd; cases hd]
    exact same
  case jpCC cc nn =>
    rw [execForm, jumpIf]; split
    · exact ⟨_, rfl⟩
    · exact same
  case jrCC cc e =>
    rw [execForm, jumpRelIf]; split
    · exact ⟨_, rfl⟩
    · exact same
  case nop => exact same
  case ld d o => cases d <;> cases o <;> first | (cases hd; done) | exact ⟨_, rfl⟩
  all_goals try cases ‹R8›
  all_goals first | (cases hd; done) | exact ⟨_, rfl⟩

/-- Every instruction answers a next state within reach, with no write but to the addresses it stores to. -/
theorem exec_next (i : Instr) (s : State) : NextFrom (· ∈ storesTo (effectForm i) s) s (exec i s) := by
  rw [exec_eq_effectForm]
  exact execForm_next _ s (effectForm_ne_prefix i)

theorem pendingService_reach {W : Word → Prop} {s t : State} {v : Word} (h : pendingService s = some (v, t)) :
    Reach W s t := by
  unfold pendingService ackInterrupt at h
  split at h
  · cases hr : s.requested with
    | none => rw [hr] at h; exact absurd h (by simp)
    | some i =>
      rw [hr] at h
      simp only [Option.map_some, Option.some.injEq, Prod.mk.injEq] at h
      rw [← h.2]
      exact (Reach.refl s).ack i
  · exact absurd h (by simp)

theorem commitEnable_reach {W : Word → Prop} (s : State) : Reach W s (commitEnable s) := by
  unfold commitEnable; split
  · exact ((Reach.refl s).cpu _).cpu _
  · exact Reach.refl s

/-- Within reach, whatever is written. -/
abbrev Reaches (s t : State) : Prop := Reach (fun _ => True) s t

theorem serviceInterrupt_reach {s t : State} (v : Word) (h : Reaches s t) : Reaches s (serviceInterrupt v t).state :=
  Reach.of_bind (pushWord_reach _ trivial trivial (((h.cpu _).cpu _).cpu _)) fun _ _ _ h => h.cpu _

/-- Every step that is not refused answers a next state within reach. -/
theorem step_next {s : State} (h : s.params.acceptable = true) : NextFrom (fun _ => True) s (step s) := by
  unfold step
  rw [if_neg (by simp [h])]
  split
  · exact nextFrom_next (.refl s)
  · split
    · next v t hp => exact nextFrom_outcome (serviceInterrupt_reach v (pendingService_reach hp))
    · dsimp only
      split
      · rcases tick_cases (commitEnable s) with ⟨_, _, e, _⟩ | ⟨_, e⟩ <;> rw [e] <;>
          exact nextFrom_next (commitEnable_reach s).tick
      · have hf : Reaches s (fetch (wake (commitEnable s))).state := fetch_reach ((commitEnable_reach s).cpu _)
        split
        · next t ht => rw [ht] at hf; exact nextFrom_next hf
        · next i t ht =>
          rw [ht] at hf
          obtain ⟨u, hu, r⟩ := exec_next i t
          exact ⟨u, hu, hf.trans (r.mono fun _ _ => trivial)⟩

theorem step_reach {s t : State} (h : step s = .next t) : Reaches s t := by
  cases ha : s.params.acceptable with
  | false =>
    rw [step, if_pos ha] at h; exact absurd h (by simp)
  | true =>
    obtain ⟨u, hu, r⟩ := step_next ha
    rw [hu] at h
    injection h with h
    exact h ▸ r

end Sys2Proof.Machine
end

