-- ==== Sys2Proof/Laws/TickCpu.lean ====
section
/-! SUPPORT. A tick neither reads nor writes the CPU, so that it commutes with an update of it; and what a fetch reads, byte by
byte. -/

namespace Sys2Proof.Machine

section
variable (s : State) (k : Cpu)

theorem raiseIf_setCpu (c : Bool) (i : Source) : raiseIf c i (s.setCpu k) = (raiseIf c i s).setCpu k := by
  unfold raiseIf; split <;> rfl

theorem ppuEnter_setCpu (m : PpuMode) : ppuEnter m (s.setCpu k) = (ppuEnter m s).setCpu k := by
  unfold ppuEnter
  rw [← raiseIf_setCpu, ← raiseIf_setCpu]
  rfl

theorem setScanline_setCpu (y : Byte) : setScanline y (s.setCpu k) = (setScanline y s).setCpu k := by
  unfold setScanline lycCompare
  dsimp only
  rw [← raiseIf_setCpu]
  rfl

theorem ppuExpire_setCpu : ppuExpire (s.setCpu k) = (ppuExpire s).setCpu k := by
  cases hm : s.ppu.mode
  · have e : ∀ t : State, t.ppu.mode = .hblank → ppuExpire t = (let u := setScanline (t.ppu.ly + 1) t
        if u.ppu.ly.toNat < visibleLines then ppuEnter .oamScan u else ppuEnter .vblank (vsync u)) := fun t h => by
      unfold ppuExpire; rw [h]
    rw [e s hm, e (s.setCpu k) hm]
    show (let u := setScanline (s.ppu.ly + 1) (s.setCpu k)
      if u.ppu.ly.toNat < visibleLines then ppuEnter .oamScan u else ppuEnter .vblank (vsync u)) = _
    rw [setScanline_setCpu]
    generalize setScanline (s.ppu.ly + 1) s = u
    show (if u.ppu.ly.toNat < visibleLines then ppuEnter .oamScan (u.setCpu k)
      else ppuEnter .vblank ((vsync u).setCpu k)) = State.setCpu (if _ then _ else _) k
    rw [ppuEnter_setCpu, ppuEnter_setCpu]
    split <;> rfl
  · have e : ∀ t : State, t.ppu.mode = .vblank → ppuExpire t =
        if t.ppu.ly.toNat + 1 < t.params.totalLines then reloadBudget (setScanline (t.ppu.ly + 1) t)
        else ppuEnter .oamScan (setScanline 0 t) := fun t h => by unfold ppuExpire; rw [h]
    rw [e s hm, e (s.setCpu k) hm]
    show (if s.ppu.ly.toNat + 1 < s.params.totalLines then reloadBudget (setScanline (s.ppu.ly + 1) (s.setCpu k))
      else ppuEnter .oamScan (setScanline 0 (s.setCpu k))) = _
    rw [setScanline_setCpu, setScanline_setCpu, ppuEnter_setCpu]
    split <;> rfl
  · have e : ∀ t : State, t.ppu.mode = .oamScan → ppuExpire t = ppuEnter .transfer t := fun t h => by
      unfold ppuExpire; rw [h]
    rw [e s hm, e (s.setCpu k) hm, ppuEnter_setCpu]
  · have e : ∀ t : State, t.ppu.mode = .transfer → ppuExpire t = ppuEnter .hblank (renderLine t) := fun t h => by
      unfold ppuExpire; rw [h]
    rw [e s hm, e (s.setCpu k) hm]
    exact ppuEnter_setCpu (renderLine s) k _

theorem ppuTick_setCpu : ppuTick (s.setCpu k) = (ppuTick s).setCpu k := by
  let t := s.setPpu { s.ppu with modeCtr := s.ppu.modeCtr - 1 }
  show (if s.ppu.lcdc.getLsbD 7 = false then s.setCpu k
    else if s.ppu.modeCtr - 1 ≠ 0 then t.setCpu k else ppuExpire (t.setCpu k)) =
    State.setCpu (if s.ppu.lcdc.getLsbD 7 = false then s else if s.ppu.modeCtr - 1 ≠ 0 then t else ppuExpire t) k
  rw [ppuExpire_setCpu]
  split
  · rfl
  · split <;> rfl

theorem timerTick_setCpu : timerTick (s.setCpu k) = (timerTick s).setCpu k := by
  let t := s.timer.count
  show (if t.due then
      if t.tima = 0xFF then raiseInterrupt .timer ((s.setTimer { t with tima := t.tma }).setCpu k)
      else (s.setTimer { t with tima := t.tima + 1 }).setCpu k
    else (s.setTimer t).setCpu k) =
    State.setCpu (if t.due then
      if t.tima = 0xFF then raiseInterrupt .timer (s.setTimer { t with tima := t.tma })
      else s.setTimer { t with tima := t.tima + 1 }
    else s.setTimer t) k
  split <;> (try split) <;> rfl

@[simp] theorem busByte_setCpu (a : Word) : (s.setCpu k).busByte a = s.busByte a := rfl

theorem dmaTick_setCpu (h : s.dmaSafe = true) : (dmaTick (s.setCpu k)).state = (dmaTick s).state.setCpu k := by
  show (if s.dma.active = false then Flow.done () (s.setCpu k)
    else if 160 ≤ s.dma.off.toNat then .done () ((s.setDma { s.dma with active := false }).setCpu k)
    else match (if s.supported (dmaAddress s) then some ((dmaNext s).busByte (dmaAddress s)) else none) with
      | some v => .done () (((dmaNext s).setMem (s.mem.write (oamBase + zext s.dma.off) v)).setCpu k)
      | none => .raised (raiseFault (.unsupportedAddress (dmaAddress s) .read) ((dmaNext s).setCpu k))).state = _
  rcases dmaTick_cases s with ⟨a, e⟩ | ⟨a, b, e⟩ | ⟨a, b, c, e⟩ | ⟨ha, ho, hs, _⟩
  · rw [e, if_pos a]; rfl
  · rw [e, if_neg (by simp [a]), if_pos b]; rfl
  · rw [e, if_neg (by simp [a]), if_neg (by omega), if_pos c]; rfl
  · rw [dmaAddress_supported ho ha h] at hs; exact absurd hs (by decide)

/-- A safe tick commutes with an update of the CPU. -/
theorem tick_setCpu (h : s.dmaSafe = true) : (s.setCpu k).tick = s.tick.setCpu k := by
  unfold State.tick advance
  rw [dmaTick_of_safe h, dmaTick_of_safe (s := s.setCpu k) h, dmaTick_setCpu s k h]
  show timerTick (ppuTick _) = (timerTick (ppuTick _)).setCpu k
  rw [ppuTick_setCpu, timerTick_setCpu]

end

theorem ticks_setCpu {s : State} (h : s.dmaSafe = true) (k : Cpu) (n : Nat) :
    (s.setCpu k).ticks n = (s.ticks n).setCpu k := by
  induction n generalizing s with
  | zero => rfl
  | succ n ih => rw [ticks_succ, tick_setCpu s k h, ih (tick_dmaSafe h)]; rfl

/-- The last tick of `n + 1`. -/
theorem ticks_tick (s : State) (n : Nat) : (s.ticks n).tick = s.ticks (n + 1) := by
  induction n generalizing s with
  | zero => rfl
  | succ n ih => rw [ticks_succ, ih, ← ticks_succ]

@[simp] theorem ticks_supported (s : State) (n : Nat) (a : Word) : (s.ticks n).supported a = s.supported a := by
  simp [State.supported]

theorem setPc_ticks_tick {s : State} (n : Nat) (h : s.dmaSafe = true) (pc : Word) :
    ((s.ticks n).setPc pc).tick = (s.ticks (n + 1)).setPc pc := by
  unfold State.setPc
  rw [tick_setCpu _ _ (ticks_dmaSafe h n), ticks_tick, ticks_cpu, ticks_cpu]

/-- The byte a fetch reads after `n` others (R104, R105). -/
theorem imm8_ticks {s : State} {pc : Word} (n : Nat) (h : s.dmaSafe = true) (ha : s.supported pc = true) :
    imm8 ((s.ticks n).setPc pc) = .done ((s.ticks (n + 1)).busByte pc) ((s.ticks (n + 1)).setPc (pc + 1)) := by
  have hs : ((s.ticks n).setPc pc).supported pc = true := by rw [setPc_supported, ticks_supported, ha]
  rw [imm8_done (s := (s.ticks n).setPc pc) (ticks_dmaSafe h n) hs, setPc_ticks_tick n h pc]
  rfl

/-- A byte of a fetch that faults after `n` others: `pc` stays at it (R292). -/
theorem imm8_ticks_raised {s : State} {pc : Word} (n : Nat) (h : s.dmaSafe = true) (ha : s.supported pc = false) :
    imm8 ((s.ticks n).setPc pc) = .raised (raiseFault (.unsupportedAddress pc .read) ((s.ticks (n + 1)).setPc pc)) := by
  have hs : ((s.ticks n).setPc pc).supported pc = false := by rw [setPc_supported, ticks_supported, ha]
  rw [imm8_raised (s := (s.ticks n).setPc pc) (ticks_dmaSafe h n) hs, setPc_ticks_tick n h pc]
  rfl

/-- Phases (b) and (c) of a step that does not idle (R270). -/
theorem wake_commitEnable (s : State) : wake (commitEnable s) =
    s.setCpu { s.cpu with ime := s.cpu.ime || s.cpu.eiPending, eiPending := false, halted := false } := by
  unfold commitEnable wake
  cases hk : s.cpu.eiPending <;> simp [hk, State.setHalted, State.setIme, State.setEiPending, State.setCpu]

/-- Phase (a) services nothing where nothing is enabled and pending, or interrupts are not enabled (R270). -/
theorem pendingService_none {s : State} (h : s.cpu.ime = true → s.irq.ie &&& s.irq.if_ = 0) : pendingService s = none := by
  unfold pendingService
  split
  · next hi =>
    have hr : s.requests = 0 := h hi
    simp [ackInterrupt, State.requested, hr, sources]
  · rfl

end Sys2Proof.Machine
end

