-- ==== Sys2Proof/Tests/Slice0.lean ====
section
/-! SUPPORT. The model's own tests: the well-formedness check, every row of the opcode table decoded, the spec's worked examples and
test vectors, and for each obligation with hypotheses a witness that meets them. The file's theorems are checked one after another,
since their threads together would not fit in the memory a compile may use. -/

set_option Elab.async false

open Sys2Proof Sys2Proof.Machine

namespace Sys2Proof.Machine.State

/-! Helpers of the tests: one part of a state replaced. -/

def withByte (s : State) (a : Word) (v : Byte) : State := s.setMem (s.mem.write a v)
def withIe (s : State) (v : BitVec 5) : State := s.setIrq { s.irq with ie := v }
def withIf (s : State) (v : BitVec 5) : State := s.setIrq { s.irq with if_ := v }
def withBgp (s : State) (v : Byte) : State := s.setPpu { s.ppu with bgp := v }
def withPolicy (s : State) (p : UnmappedPolicy) : State := s.setParams { s.params with unmappedPolicy := p }
def withCounter (s : State) (n : Word) : State := s.setTimer { s.timer with counter := n }

end Sys2Proof.Machine.State

namespace Sys2Proof.Tests

def decodesTo (c : List Byte × Instr) : Bool :=
  match decode c.1 with
  | .ok (i, []) => i = c.2
  | _ => false

def params : Params := { Params.default with resetProfile := .postBoot }

/-- The bare state of spec/95_test_vectors.md section 2: every register and flag 0, `pc = 0xC000`, `sp = 0xDFF0`, the PPU off. -/
def bare : State :=
  let s := State.resetWith params [] []
  ((s.setCpu { Cpu.reset .boot with sp := 0xDFF0, pc := 0xC000 }).setPpu { s.ppu with lcdc := 0 }).withBgp 0

def yields (r : Result) (t : State) : Bool :=
  match r with
  | .next u => u = t
  | _ => false

/-- One step of the bytes placed at `0xC000` in the bare state changed by `before` gives that state with `pc` past the bytes, as many
ticks on the counter as the vector has accesses, and `after` made of it. -/
def vector (bytes : List Byte) (accesses : Word) (before after : State → State) : Bool :=
  let s := placeBytes 0xC000 bytes (before bare)
  yields (step s) (after ((s.setPc (0xC000 + BitVec.ofNat 16 bytes.length)).withCounter accesses))

/-! Well-formedness: the one check refuses the prefix as an instruction by itself (R265), with any operand, and nothing else of its
row's neighbours. -/

theorem test_wellFormed_refuses_prefix : (Instr.prefix_CB 0x37).wellFormed = false := by decide

theorem test_wellFormed_takes_the_instruction : Instr.swap_A.wellFormed = true := by decide

/-! Decoding, row by row of R111 and R112. -/

/-- R111, row 0x: each word is the `encoding` of the row of spec/opcode_table.json, with `n = 0xA5`, `e = 0xFB`, `nn = 0x1234`. -/
theorem test_decode_standard_row_0 : [
    ([0b00000000], .nop),
    ([0b00000001, 0x34, 0x12], .ld_BC_nn 0x1234),
    ([0b00000010], .ld_atBC_A),
    ([0b00000011], .inc_BC),
    ([0b00000100], .inc_B),
    ([0b00000101], .dec_B),
    ([0b00000110, 0xA5], .ld_B_n 0xA5),
    ([0b00000111], .rlca),
    ([0b00001000, 0x34, 0x12], .ld_atNn_SP 0x1234),
    ([0b00001001], .add_HL_BC),
    ([0b00001010], .ld_A_atBC),
    ([0b00001011], .dec_BC),
    ([0b00001100], .inc_C),
    ([0b00001101], .dec_C),
    ([0b00001110, 0xA5], .ld_C_n 0xA5),
    ([0b00001111], .rrca)
  ].all decodesTo = true := by decide +kernel

/-- R111, row 1x: each word is the `encoding` of the row of spec/opcode_table.json, with `n = 0xA5`, `e = 0xFB`, `nn = 0x1234`. -/
theorem test_decode_standard_row_1 : [
    ([0b00010000, 0xA5], .stop 0xA5),
    ([0b00010001, 0x34, 0x12], .ld_DE_nn 0x1234),
    ([0b00010010], .ld_atDE_A),
    ([0b00010011], .inc_DE),
    ([0b00010100], .inc_D),
    ([0b00010101], .dec_D),
    ([0b00010110, 0xA5], .ld_D_n 0xA5),
    ([0b00010111], .rla),
    ([0b00011000, 0xFB], .jr_e 0xFB),
    ([0b00011001], .add_HL_DE),
    ([0b00011010], .ld_A_atDE),
    ([0b00011011], .dec_DE),
    ([0b00011100], .inc_E),
    ([0b00011101], .dec_E),
    ([0b00011110, 0xA5], .ld_E_n 0xA5),
    ([0b00011111], .rra)
  ].all decodesTo = true := by decide +kernel

/-- R111, row 2x: each word is the `encoding` of the row of spec/opcode_table.json, with `n = 0xA5`, `e = 0xFB`, `nn = 0x1234`. -/
theorem test_decode_standard_row_2 : [
    ([0b00100000, 0xFB], .jr_NZ_e 0xFB),
    ([0b00100001, 0x34, 0x12], .ld_HL_nn 0x1234),
    ([0b00100010], .ld_atHLinc_A),
    ([0b00100011], .inc_HL),
    ([0b00100100], .inc_H),
    ([0b00100101], .dec_H),
    ([0b00100110, 0xA5], .ld_H_n 0xA5),
    ([0b00100111], .daa),
    ([0b00101000, 0xFB], .jr_Z_e 0xFB),
    ([0b00101001], .add_HL_HL),
    ([0b00101010], .ld_A_atHLinc),
    ([0b00101011], .dec_HL),
    ([0b00101100], .inc_L),
    ([0b00101101], .dec_L),
    ([0b00101110, 0xA5], .ld_L_n 0xA5),
    ([0b00101111], .cpl)
  ].all decodesTo = true := by decide +kernel

/-- R111, row 3x: each word is the `encoding` of the row of spec/opcode_table.json, with `n = 0xA5`, `e = 0xFB`, `nn = 0x1234`. -/
theorem test_decode_standard_row_3 : [
    ([0b00110000, 0xFB], .jr_NC_e 0xFB),
    ([0b00110001, 0x34, 0x12], .ld_SP_nn 0x1234),
    ([0b00110010], .ld_atHLdec_A),
    ([0b00110011], .inc_SP),
    ([0b00110100], .inc_atHL),
    ([0b00110101], .dec_atHL),
    ([0b00110110, 0xA5], .ld_atHL_n 0xA5),
    ([0b00110111], .scf),
    ([0b00111000, 0xFB], .jr_C_e 0xFB),
    ([0b00111001], .add_HL_SP),
    ([0b00111010], .ld_A_atHLdec),
    ([0b00111011], .dec_SP),
    ([0b00111100], .inc_A),
    ([0b00111101], .dec_A),
    ([0b00111110, 0xA5], .ld_A_n 0xA5),
    ([0b00111111], .ccf)
  ].all decodesTo = true := by decide +kernel

/-- R111, row 4x: each word is the `encoding` of the row of spec/opcode_table.json, with `n = 0xA5`, `e = 0xFB`, `nn = 0x1234`. -/
theorem test_decode_standard_row_4 : [
    ([0b01000000], .ld_B_B),
    ([0b01000001], .ld_B_C),
    ([0b01000010], .ld_B_D),
    ([0b01000011], .ld_B_E),
    ([0b01000100], .ld_B_H),
    ([0b01000101], .ld_B_L),
    ([0b01000110], .ld_B_atHL),
    ([0b01000111], .ld_B_A),
    ([0b01001000], .ld_C_B),
    ([0b01001001], .ld_C_C),
    ([0b01001010], .ld_C_D),
    ([0b01001011], .ld_C_E),
    ([0b01001100], .ld_C_H),
    ([0b01001101], .ld_C_L),
    ([0b01001110], .ld_C_atHL),
    ([0b01001111], .ld_C_A)
  ].all decodesTo = true := by decide +kernel

/-- R111, row 5x: each word is the `encoding` of the row of spec/opcode_table.json, with `n = 0xA5`, `e = 0xFB`, `nn = 0x1234`. -/
theorem test_decode_standard_row_5 : [
    ([0b01010000], .ld_D_B),
    ([0b01010001], .ld_D_C),
    ([0b01010010], .ld_D_D),
    ([0b01010011], .ld_D_E),
    ([0b01010100], .ld_D_H),
    ([0b01010101], .ld_D_L),
    ([0b01010110], .ld_D_atHL),
    ([0b01010111], .ld_D_A),
    ([0b01011000], .ld_E_B),
    ([0b01011001], .ld_E_C),
    ([0b01011010], .ld_E_D),
    ([0b01011011], .ld_E_E),
    ([0b01011100], .ld_E_H),
    ([0b01011101], .ld_E_L),
    ([0b01011110], .ld_E_atHL),
    ([0b01011111], .ld_E_A)
  ].all decodesTo = true := by decide +kernel

/-- R111, row 6x: each word is the `encoding` of the row of spec/opcode_table.json, with `n = 0xA5`, `e = 0xFB`, `nn = 0x1234`. -/
theorem test_decode_standard_row_6 : [
    ([0b01100000], .ld_H_B),
    ([0b01100001], .ld_H_C),
    ([0b01100010], .ld_H_D),
    ([0b01100011], .ld_H_E),
    ([0b01100100], .ld_H_H),
    ([0b01100101], .ld_H_L),
    ([0b01100110], .ld_H_atHL),
    ([0b01100111], .ld_H_A),
    ([0b01101000], .ld_L_B),
    ([0b01101001], .ld_L_C),
    ([0b01101010], .ld_L_D),
    ([0b01101011], .ld_L_E),
    ([0b01101100], .ld_L_H),
    ([0b01101101], .ld_L_L),
    ([0b01101110], .ld_L_atHL),
    ([0b01101111], .ld_L_A)
  ].all decodesTo = true := by decide +kernel

/-- R111, row 7x: each word is the `encoding` of the row of spec/opcode_table.json, with `n = 0xA5`, `e = 0xFB`, `nn = 0x1234`. -/
theorem test_decode_standard_row_7 : [
    ([0b01110000], .ld_atHL_B),
    ([0b01110001], .ld_atHL_C),
    ([0b01110010], .ld_atHL_D),
    ([0b01110011], .ld_atHL_E),
    ([0b01110100], .ld_atHL_H),
    ([0b01110101], .ld_atHL_L),
    ([0b01110110], .halt),
    ([0b01110111], .ld_atHL_A),
    ([0b01111000], .ld_A_B),
    ([0b01111001], .ld_A_C),
    ([0b01111010], .ld_A_D),
    ([0b01111011], .ld_A_E),
    ([0b01111100], .ld_A_H),
    ([0b01111101], .ld_A_L),
    ([0b01111110], .ld_A_atHL),
    ([0b01111111], .ld_A_A)
  ].all decodesTo = true := by decide +kernel

/-- R111, row 8x: each word is the `encoding` of the row of spec/opcode_table.json, with `n = 0xA5`, `e = 0xFB`, `nn = 0x1234`. -/
theorem test_decode_standard_row_8 : [
    ([0b10000000], .add_A_B),
    ([0b10000001], .add_A_C),
    ([0b10000010], .add_A_D),
    ([0b10000011], .add_A_E),
    ([0b10000100], .add_A_H),
    ([0b10000101], .add_A_L),
    ([0b10000110], .add_A_atHL),
    ([0b10000111], .add_A_A),
    ([0b10001000], .adc_A_B),
    ([0b10001001], .adc_A_C),
    ([0b10001010], .adc_A_D),
    ([0b10001011], .adc_A_E),
    ([0b10001100], .adc_A_H),
    ([0b10001101], .adc_A_L),
    ([0b10001110], .adc_A_atHL),
    ([0b10001111], .adc_A_A)
  ].all decodesTo = true := by decide +kernel

/-- R111, row 9x: each word is the `encoding` of the row of spec/opcode_table.json, with `n = 0xA5`, `e = 0xFB`, `nn = 0x1234`. -/
theorem test_decode_standard_row_9 : [
    ([0b10010000], .sub_B),
    ([0b10010001], .sub_C),
    ([0b10010010], .sub_D),
    ([0b10010011], .sub_E),
    ([0b10010100], .sub_H),
    ([0b10010101], .sub_L),
    ([0b10010110], .sub_atHL),
    ([0b10010111], .sub_A),
    ([0b10011000], .sbc_A_B),
    ([0b10011001], .sbc_A_C),
    ([0b10011010], .sbc_A_D),
    ([0b10011011], .sbc_A_E),
    ([0b10011100], .sbc_A_H),
    ([0b10011101], .sbc_A_L),
    ([0b10011110], .sbc_A_atHL),
    ([0b10011111], .sbc_A_A)
  ].all decodesTo = true := by decide +kernel

/-- R111, row Ax: each word is the `encoding` of the row of spec/opcode_table.json, with `n = 0xA5`, `e = 0xFB`, `nn = 0x1234`. -/
theorem test_decode_standard_row_A : [
    ([0b10100000], .and_B),
    ([0b10100001], .and_C),
    ([0b10100010], .and_D),
    ([0b10100011], .and_E),
    ([0b10100100], .and_H),
    ([0b10100101], .and_L),
    ([0b10100110], .and_atHL),
    ([0b10100111], .and_A),
    ([0b10101000], .xor_B),
    ([0b10101001], .xor_C),
    ([0b10101010], .xor_D),
    ([0b10101011], .xor_E),
    ([0b10101100], .xor_H),
    ([0b10101101], .xor_L),
    ([0b10101110], .xor_atHL),
    ([0b10101111], .xor_A)
  ].all decodesTo = true := by decide +kernel

/-- R111, row Bx: each word is the `encoding` of the row of spec/opcode_table.json, with `n = 0xA5`, `e = 0xFB`, `nn = 0x1234`. -/
theorem test_decode_standard_row_B : [
    ([0b10110000], .or_B),
    ([0b10110001], .or_C),
    ([0b10110010], .or_D),
    ([0b10110011], .or_E),
    ([0b10110100], .or_H),
    ([0b10110101], .or_L),
    ([0b10110110], .or_atHL),
    ([0b10110111], .or_A),
    ([0b10111000], .cp_B),
    ([0b10111001], .cp_C),
    ([0b10111010], .cp_D),
    ([0b10111011], .cp_E),
    ([0b10111100], .cp_H),
    ([0b10111101], .cp_L),
    ([0b10111110], .cp_atHL),
    ([0b10111111], .cp_A)
  ].all decodesTo = true := by decide +kernel

/-- R111, row Cx: each word is the `encoding` of the row of spec/opcode_table.json, with `n = 0xA5`, `e = 0xFB`, `nn = 0x1234`. -/
theorem test_decode_standard_row_C : [
    ([0b11000000], .ret_NZ),
    ([0b11000001], .pop_BC),
    ([0b11000010, 0x34, 0x12], .jp_NZ_nn 0x1234),
    ([0b11000011, 0x34, 0x12], .jp_nn 0x1234),
    ([0b11000100, 0x34, 0x12], .call_NZ_nn 0x1234),
    ([0b11000101], .push_BC),
    ([0b11000110, 0xA5], .add_A_n 0xA5),
    ([0b11000111], .rst_00),
    ([0b11001000], .ret_Z),
    ([0b11001001], .ret),
    ([0b11001010, 0x34, 0x12], .jp_Z_nn 0x1234),
    ([0b11001100, 0x34, 0x12], .call_Z_nn 0x1234),
    ([0b11001101, 0x34, 0x12], .call_nn 0x1234),
    ([0b11001110, 0xA5], .adc_A_n 0xA5),
    ([0b11001111], .rst_08)
  ].all decodesTo = true := by decide +kernel

/-- R111, row Dx: each word is the `encoding` of the row of spec/opcode_table.json, with `n = 0xA5`, `e = 0xFB`, `nn = 0x1234`. -/
theorem test_decode_standard_row_D : [
    ([0b11010000], .ret_NC),
    ([0b11010001], .pop_DE),
    ([0b11010010, 0x34, 0x12], .jp_NC_nn 0x1234),
    ([0b11010011], .undefined_D3),
    ([0b11010100, 0x34, 0x12], .call_NC_nn 0x1234),
    ([0b11010101], .push_DE),
    ([0b11010110, 0xA5], .sub_n 0xA5),
    ([0b11010111], .rst_10),
    ([0b11011000], .ret_C),
    ([0b11011001], .reti),
    ([0b11011010, 0x34, 0x12], .jp_C_nn 0x1234),
    ([0b11011011], .undefined_DB),
    ([0b11011100, 0x34, 0x12], .call_C_nn 0x1234),
    ([0b11011101], .undefined_DD),
    ([0b11011110, 0xA5], .sbc_A_n 0xA5),
    ([0b11011111], .rst_18)
  ].all decodesTo = true := by decide +kernel

/-- R111, row Ex: each word is the `encoding` of the row of spec/opcode_table.json, with `n = 0xA5`, `e = 0xFB`, `nn = 0x1234`. -/
theorem test_decode_standard_row_E : [
    ([0b11100000, 0xA5], .ldh_atN_A 0xA5),
    ([0b11100001], .pop_HL),
    ([0b11100010], .ldh_atC_A),
    ([0b11100011], .undefined_E3),
    ([0b11100100], .undefined_E4),
    ([0b11100101], .push_HL),
    ([0b11100110, 0xA5], .and_n 0xA5),
    ([0b11100111], .rst_20),
    ([0b11101000, 0xFB], .add_SP_e 0xFB),
    ([0b11101001], .jp_HL),
    ([0b11101010, 0x34, 0x12], .ld_atNn_A 0x1234),
    ([0b11101011], .undefined_EB),
    ([0b11101100], .undefined_EC),
    ([0b11101101], .undefined_ED),
    ([0b11101110, 0xA5], .xor_n 0xA5),
    ([0b11101111], .rst_28)
  ].all decodesTo = true := by decide +kernel

/-- R111, row Fx: each word is the `encoding` of the row of spec/opcode_table.json, with `n = 0xA5`, `e = 0xFB`, `nn = 0x1234`. -/
theorem test_decode_standard_row_F : [
    ([0b11110000, 0xA5], .ldh_A_atN 0xA5),
    ([0b11110001], .pop_AF),
    ([0b11110010], .ldh_A_atC),
    ([0b11110011], .di),
    ([0b11110100], .undefined_F4),
    ([0b11110101], .push_AF),
    ([0b11110110, 0xA5], .or_n 0xA5),
    ([0b11110111], .rst_30),
    ([0b11111000, 0xFB], .ld_HL_SPe 0xFB),
    ([0b11111001], .ld_SP_HL),
    ([0b11111010, 0x34, 0x12], .ld_A_atNn 0x1234),
    ([0b11111011], .ei),
    ([0b11111100], .undefined_FC),
    ([0b11111101], .undefined_FD),
    ([0b11111110, 0xA5], .cp_n 0xA5),
    ([0b11111111], .rst_38)
  ].all decodesTo = true := by decide +kernel

/-- R112, row 0x: each word is the `encoding` of the row of spec/opcode_table.json, with `n = 0xA5`, `e = 0xFB`, `nn = 0x1234`. -/
theorem test_decode_extended_row_0 : [
    ([0b11001011, 0b00000000], .rlc_B),
    ([0b11001011, 0b00000001], .rlc_C),
    ([0b11001011, 0b00000010], .rlc_D),
    ([0b11001011, 0b00000011], .rlc_E),
    ([0b11001011, 0b00000100], .rlc_H),
    ([0b11001011, 0b00000101], .rlc_L),
    ([0b11001011, 0b00000110], .rlc_atHL),
    ([0b11001011, 0b00000111], .rlc_A),
    ([0b11001011, 0b00001000], .rrc_B),
    ([0b11001011, 0b00001001], .rrc_C),
    ([0b11001011, 0b00001010], .rrc_D),
    ([0b11001011, 0b00001011], .rrc_E),
    ([0b11001011, 0b00001100], .rrc_H),
    ([0b11001011, 0b00001101], .rrc_L),
    ([0b11001011, 0b00001110], .rrc_atHL),
    ([0b11001011, 0b00001111], .rrc_A)
  ].all decodesTo = true := by decide +kernel

/-- R112, row 1x: each word is the `encoding` of the row of spec/opcode_table.json, with `n = 0xA5`, `e = 0xFB`, `nn = 0x1234`. -/
theorem test_decode_extended_row_1 : [
    ([0b11001011, 0b00010000], .rl_B),
    ([0b11001011, 0b00010001], .rl_C),
    ([0b11001011, 0b00010010], .rl_D),
    ([0b11001011, 0b00010011], .rl_E),
    ([0b11001011, 0b00010100], .rl_H),
    ([0b11001011, 0b00010101], .rl_L),
    ([0b11001011, 0b00010110], .rl_atHL),
    ([0b11001011, 0b00010111], .rl_A),
    ([0b11001011, 0b00011000], .rr_B),
    ([0b11001011, 0b00011001], .rr_C),
    ([0b11001011, 0b00011010], .rr_D),
    ([0b11001011, 0b00011011], .rr_E),
    ([0b11001011, 0b00011100], .rr_H),
    ([0b11001011, 0b00011101], .rr_L),
    ([0b11001011, 0b00011110], .rr_atHL),
    ([0b11001011, 0b00011111], .rr_A)
  ].all decodesTo = true := by decide +kernel

/-- R112, row 2x: each word is the `encoding` of the row of spec/opcode_table.json, with `n = 0xA5`, `e = 0xFB`, `nn = 0x1234`. -/
theorem test_decode_extended_row_2 : [
    ([0b11001011, 0b00100000], .sla_B),
    ([0b11001011, 0b00100001], .sla_C),
    ([0b11001011, 0b00100010], .sla_D),
    ([0b11001011, 0b00100011], .sla_E),
    ([0b11001011, 0b00100100], .sla_H),
    ([0b11001011, 0b00100101], .sla_L),
    ([0b11001011, 0b00100110], .sla_atHL),
    ([0b11001011, 0b00100111], .sla_A),
    ([0b11001011, 0b00101000], .sra_B),
    ([0b11001011, 0b00101001], .sra_C),
    ([0b11001011, 0b00101010], .sra_D),
    ([0b11001011, 0b00101011], .sra_E),
    ([0b11001011, 0b00101100], .sra_H),
    ([0b11001011, 0b00101101], .sra_L),
    ([0b11001011, 0b00101110], .sra_atHL),
    ([0b11001011, 0b00101111], .sra_A)
  ].all decodesTo = true := by decide +kernel

/-- R112, row 3x: each word is the `encoding` of the row of spec/opcode_table.json, with `n = 0xA5`, `e = 0xFB`, `nn = 0x1234`. -/
theorem test_decode_extended_row_3 : [
    ([0b11001011, 0b00110000], .swap_B),
    ([0b11001011, 0b00110001], .swap_C),
    ([0b11001011, 0b00110010], .swap_D),
    ([0b11001011, 0b00110011], .swap_E),
    ([0b11001011, 0b00110100], .swap_H),
    ([0b11001011, 0b00110101], .swap_L),
    ([0b11001011, 0b00110110], .swap_atHL),
    ([0b11001011, 0b00110111], .swap_A),
    ([0b11001011, 0b00111000], .srl_B),
    ([0b11001011, 0b00111001], .srl_C),
    ([0b11001011, 0b00111010], .srl_D),
    ([0b11001011, 0b00111011], .srl_E),
    ([0b11001011, 0b00111100], .srl_H),
    ([0b11001011, 0b00111101], .srl_L),
    ([0b11001011, 0b00111110], .srl_atHL),
    ([0b11001011, 0b00111111], .srl_A)
  ].all decodesTo = true := by decide +kernel

/-- R112, row 4x: each word is the `encoding` of the row of spec/opcode_table.json, with `n = 0xA5`, `e = 0xFB`, `nn = 0x1234`. -/
theorem test_decode_extended_row_4 : [
    ([0b11001011, 0b01000000], .bit_0_B),
    ([0b11001011, 0b01000001], .bit_0_C),
    ([0b11001011, 0b01000010], .bit_0_D),
    ([0b11001011, 0b01000011], .bit_0_E),
    ([0b11001011, 0b01000100], .bit_0_H),
    ([0b11001011, 0b01000101], .bit_0_L),
    ([0b11001011, 0b01000110], .bit_0_atHL),
    ([0b11001011, 0b01000111], .bit_0_A),
    ([0b11001011, 0b01001000], .bit_1_B),
    ([0b11001011, 0b01001001], .bit_1_C),
    ([0b11001011, 0b01001010], .bit_1_D),
    ([0b11001011, 0b01001011], .bit_1_E),
    ([0b11001011, 0b01001100], .bit_1_H),
    ([0b11001011, 0b01001101], .bit_1_L),
    ([0b11001011, 0b01001110], .bit_1_atHL),
    ([0b11001011, 0b01001111], .bit_1_A)
  ].all decodesTo = true := by decide +kernel

/-- R112, row 5x: each word is the `encoding` of the row of spec/opcode_table.json, with `n = 0xA5`, `e = 0xFB`, `nn = 0x1234`. -/
theorem test_decode_extended_row_5 : [
    ([0b11001011, 0b01010000], .bit_2_B),
    ([0b11001011, 0b01010001], .bit_2_C),
    ([0b11001011, 0b01010010], .bit_2_D),
    ([0b11001011, 0b01010011], .bit_2_E),
    ([0b11001011, 0b01010100], .bit_2_H),
    ([0b11001011, 0b01010101], .bit_2_L),
    ([0b11001011, 0b01010110], .bit_2_atHL),
    ([0b11001011, 0b01010111], .bit_2_A),
    ([0b11001011, 0b01011000], .bit_3_B),
    ([0b11001011, 0b01011001], .bit_3_C),
    ([0b11001011, 0b01011010], .bit_3_D),
    ([0b11001011, 0b01011011], .bit_3_E),
    ([0b11001011, 0b01011100], .bit_3_H),
    ([0b11001011, 0b01011101], .bit_3_L),
    ([0b11001011, 0b01011110], .bit_3_atHL),
    ([0b11001011, 0b01011111], .bit_3_A)
  ].all decodesTo = true := by decide +kernel

/-- R112, row 6x: each word is the `encoding` of the row of spec/opcode_table.json, with `n = 0xA5`, `e = 0xFB`, `nn = 0x1234`. -/
theorem test_decode_extended_row_6 : [
    ([0b11001011, 0b01100000], .bit_4_B),
    ([0b11001011, 0b01100001], .bit_4_C),
    ([0b11001011, 0b01100010], .bit_4_D),
    ([0b11001011, 0b01100011], .bit_4_E),
    ([0b11001011, 0b01100100], .bit_4_H),
    ([0b11001011, 0b01100101], .bit_4_L),
    ([0b11001011, 0b01100110], .bit_4_atHL),
    ([0b11001011, 0b01100111], .bit_4_A),
    ([0b11001011, 0b01101000], .bit_5_B),
    ([0b11001011, 0b01101001], .bit_5_C),
    ([0b11001011, 0b01101010], .bit_5_D),
    ([0b11001011, 0b01101011], .bit_5_E),
    ([0b11001011, 0b01101100], .bit_5_H),
    ([0b11001011, 0b01101101], .bit_5_L),
    ([0b11001011, 0b01101110], .bit_5_atHL),
    ([0b11001011, 0b01101111], .bit_5_A)
  ].all decodesTo = true := by decide +kernel

/-- R112, row 7x: each word is the `encoding` of the row of spec/opcode_table.json, with `n = 0xA5`, `e = 0xFB`, `nn = 0x1234`. -/
theorem test_decode_extended_row_7 : [
    ([0b11001011, 0b01110000], .bit_6_B),
    ([0b11001011, 0b01110001], .bit_6_C),
    ([0b11001011, 0b01110010], .bit_6_D),
    ([0b11001011, 0b01110011], .bit_6_E),
    ([0b11001011, 0b01110100], .bit_6_H),
    ([0b11001011, 0b01110101], .bit_6_L),
    ([0b11001011, 0b01110110], .bit_6_atHL),
    ([0b11001011, 0b01110111], .bit_6_A),
    ([0b11001011, 0b01111000], .bit_7_B),
    ([0b11001011, 0b01111001], .bit_7_C),
    ([0b11001011, 0b01111010], .bit_7_D),
    ([0b11001011, 0b01111011], .bit_7_E),
    ([0b11001011, 0b01111100], .bit_7_H),
    ([0b11001011, 0b01111101], .bit_7_L),
    ([0b11001011, 0b01111110], .bit_7_atHL),
    ([0b11001011, 0b01111111], .bit_7_A)
  ].all decodesTo = true := by decide +kernel

/-- R112, row 8x: each word is the `encoding` of the row of spec/opcode_table.json, with `n = 0xA5`, `e = 0xFB`, `nn = 0x1234`. -/
theorem test_decode_extended_row_8 : [
    ([0b11001011, 0b10000000], .res_0_B),
    ([0b11001011, 0b10000001], .res_0_C),
    ([0b11001011, 0b10000010], .res_0_D),
    ([0b11001011, 0b10000011], .res_0_E),
    ([0b11001011, 0b10000100], .res_0_H),
    ([0b11001011, 0b10000101], .res_0_L),
    ([0b11001011, 0b10000110], .res_0_atHL),
    ([0b11001011, 0b10000111], .res_0_A),
    ([0b11001011, 0b10001000], .res_1_B),
    ([0b11001011, 0b10001001], .res_1_C),
    ([0b11001011, 0b10001010], .res_1_D),
    ([0b11001011, 0b10001011], .res_1_E),
    ([0b11001011, 0b10001100], .res_1_H),
    ([0b11001011, 0b10001101], .res_1_L),
    ([0b11001011, 0b10001110], .res_1_atHL),
    ([0b11001011, 0b10001111], .res_1_A)
  ].all decodesTo = true := by decide +kernel

/-- R112, row 9x: each word is the `encoding` of the row of spec/opcode_table.json, with `n = 0xA5`, `e = 0xFB`, `nn = 0x1234`. -/
theorem test_decode_extended_row_9 : [
    ([0b11001011, 0b10010000], .res_2_B),
    ([0b11001011, 0b10010001], .res_2_C),
    ([0b11001011, 0b10010010], .res_2_D),
    ([0b11001011, 0b10010011], .res_2_E),
    ([0b11001011, 0b10010100], .res_2_H),
    ([0b11001011, 0b10010101], .res_2_L),
    ([0b11001011, 0b10010110], .res_2_atHL),
    ([0b11001011, 0b10010111], .res_2_A),
    ([0b11001011, 0b10011000], .res_3_B),
    ([0b11001011, 0b10011001], .res_3_C),
    ([0b11001011, 0b10011010], .res_3_D),
    ([0b11001011, 0b10011011], .res_3_E),
    ([0b11001011, 0b10011100], .res_3_H),
    ([0b11001011, 0b10011101], .res_3_L),
    ([0b11001011, 0b10011110], .res_3_atHL),
    ([0b11001011, 0b10011111], .res_3_A)
  ].all decodesTo = true := by decide +kernel

/-- R112, row Ax: each word is the `encoding` of the row of spec/opcode_table.json, with `n = 0xA5`, `e = 0xFB`, `nn = 0x1234`. -/
theorem test_decode_extended_row_A : [
    ([0b11001011, 0b10100000], .res_4_B),
    ([0b11001011, 0b10100001], .res_4_C),
    ([0b11001011, 0b10100010], .res_4_D),
    ([0b11001011, 0b10100011], .res_4_E),
    ([0b11001011, 0b10100100], .res_4_H),
    ([0b11001011, 0b10100101], .res_4_L),
    ([0b11001011, 0b10100110], .res_4_atHL),
    ([0b11001011, 0b10100111], .res_4_A),
    ([0b11001011, 0b10101000], .res_5_B),
    ([0b11001011, 0b10101001], .res_5_C),
    ([0b11001011, 0b10101010], .res_5_D),
    ([0b11001011, 0b10101011], .res_5_E),
    ([0b11001011, 0b10101100], .res_5_H),
    ([0b11001011, 0b10101101], .res_5_L),
    ([0b11001011, 0b10101110], .res_5_atHL),
    ([0b11001011, 0b10101111], .res_5_A)
  ].all decodesTo = true := by decide +kernel

/-- R112, row Bx: each word is the `encoding` of the row of spec/opcode_table.json, with `n = 0xA5`, `e = 0xFB`, `nn = 0x1234`. -/
theorem test_decode_extended_row_B : [
    ([0b11001011, 0b10110000], .res_6_B),
    ([0b11001011, 0b10110001], .res_6_C),
    ([0b11001011, 0b10110010], .res_6_D),
    ([0b11001011, 0b10110011], .res_6_E),
    ([0b11001011, 0b10110100], .res_6_H),
    ([0b11001011, 0b10110101], .res_6_L),
    ([0b11001011, 0b10110110], .res_6_atHL),
    ([0b11001011, 0b10110111], .res_6_A),
    ([0b11001011, 0b10111000], .res_7_B),
    ([0b11001011, 0b10111001], .res_7_C),
    ([0b11001011, 0b10111010], .res_7_D),
    ([0b11001011, 0b10111011], .res_7_E),
    ([0b11001011, 0b10111100], .res_7_H),
    ([0b11001011, 0b10111101], .res_7_L),
    ([0b11001011, 0b10111110], .res_7_atHL),
    ([0b11001011, 0b10111111], .res_7_A)
  ].all decodesTo = true := by decide +kernel

/-- R112, row Cx: each word is the `encoding` of the row of spec/opcode_table.json, with `n = 0xA5`, `e = 0xFB`, `nn = 0x1234`. -/
theorem test_decode_extended_row_C : [
    ([0b11001011, 0b11000000], .set_0_B),
    ([0b11001011, 0b11000001], .set_0_C),
    ([0b11001011, 0b11000010], .set_0_D),
    ([0b11001011, 0b11000011], .set_0_E),
    ([0b11001011, 0b11000100], .set_0_H),
    ([0b11001011, 0b11000101], .set_0_L),
    ([0b11001011, 0b11000110], .set_0_atHL),
    ([0b11001011, 0b11000111], .set_0_A),
    ([0b11001011, 0b11001000], .set_1_B),
    ([0b11001011, 0b11001001], .set_1_C),
    ([0b11001011, 0b11001010], .set_1_D),
    ([0b11001011, 0b11001011], .set_1_E),
    ([0b11001011, 0b11001100], .set_1_H),
    ([0b11001011, 0b11001101], .set_1_L),
    ([0b11001011, 0b11001110], .set_1_atHL),
    ([0b11001011, 0b11001111], .set_1_A)
  ].all decodesTo = true := by decide +kernel

/-- R112, row Dx: each word is the `encoding` of the row of spec/opcode_table.json, with `n = 0xA5`, `e = 0xFB`, `nn = 0x1234`. -/
theorem test_decode_extended_row_D : [
    ([0b11001011, 0b11010000], .set_2_B),
    ([0b11001011, 0b11010001], .set_2_C),
    ([0b11001011, 0b11010010], .set_2_D),
    ([0b11001011, 0b11010011], .set_2_E),
    ([0b11001011, 0b11010100], .set_2_H),
    ([0b11001011, 0b11010101], .set_2_L),
    ([0b11001011, 0b11010110], .set_2_atHL),
    ([0b11001011, 0b11010111], .set_2_A),
    ([0b11001011, 0b11011000], .set_3_B),
    ([0b11001011, 0b11011001], .set_3_C),
    ([0b11001011, 0b11011010], .set_3_D),
    ([0b11001011, 0b11011011], .set_3_E),
    ([0b11001011, 0b11011100], .set_3_H),
    ([0b11001011, 0b11011101], .set_3_L),
    ([0b11001011, 0b11011110], .set_3_atHL),
    ([0b11001011, 0b11011111], .set_3_A)
  ].all decodesTo = true := by decide +kernel

/-- R112, row Ex: each word is the `encoding` of the row of spec/opcode_table.json, with `n = 0xA5`, `e = 0xFB`, `nn = 0x1234`. -/
theorem test_decode_extended_row_E : [
    ([0b11001011, 0b11100000], .set_4_B),
    ([0b11001011, 0b11100001], .set_4_C),
    ([0b11001011, 0b11100010], .set_4_D),
    ([0b11001011, 0b11100011], .set_4_E),
    ([0b11001011, 0b11100100], .set_4_H),
    ([0b11001011, 0b11100101], .set_4_L),
    ([0b11001011, 0b11100110], .set_4_atHL),
    ([0b11001011, 0b11100111], .set_4_A),
    ([0b11001011, 0b11101000], .set_5_B),
    ([0b11001011, 0b11101001], .set_5_C),
    ([0b11001011, 0b11101010], .set_5_D),
    ([0b11001011, 0b11101011], .set_5_E),
    ([0b11001011, 0b11101100], .set_5_H),
    ([0b11001011, 0b11101101], .set_5_L),
    ([0b11001011, 0b11101110], .set_5_atHL),
    ([0b11001011, 0b11101111], .set_5_A)
  ].all decodesTo = true := by decide +kernel

/-- R112, row Fx: each word is the `encoding` of the row of spec/opcode_table.json, with `n = 0xA5`, `e = 0xFB`, `nn = 0x1234`. -/
theorem test_decode_extended_row_F : [
    ([0b11001011, 0b11110000], .set_6_B),
    ([0b11001011, 0b11110001], .set_6_C),
    ([0b11001011, 0b11110010], .set_6_D),
    ([0b11001011, 0b11110011], .set_6_E),
    ([0b11001011, 0b11110100], .set_6_H),
    ([0b11001011, 0b11110101], .set_6_L),
    ([0b11001011, 0b11110110], .set_6_atHL),
    ([0b11001011, 0b11110111], .set_6_A),
    ([0b11001011, 0b11111000], .set_7_B),
    ([0b11001011, 0b11111001], .set_7_C),
    ([0b11001011, 0b11111010], .set_7_D),
    ([0b11001011, 0b11111011], .set_7_E),
    ([0b11001011, 0b11111100], .set_7_H),
    ([0b11001011, 0b11111101], .set_7_L),
    ([0b11001011, 0b11111110], .set_7_atHL),
    ([0b11001011, 0b11111111], .set_7_A)
  ].all decodesTo = true := by decide +kernel

/-- R110: the prefix row of the table, by itself (log 10). -/
theorem test_decodeTableWord_prefix : decodeTableWord 8 0xCB = some (.prefix_CB 0) := by decide

/-- R103: an extended row's word is `0xCB ++ second byte`, the prefix in the high byte (log 10). -/
theorem test_decodeTableWord_extended : decodeTableWord 16 0xCB37 = some .swap_A := by decide

/-- A standard row's word has the opcode in its low byte, also beside an immediate of `0xCA` (log 10). -/
theorem test_decodeTableWord_standard : decodeTableWord 16 0xCA3E = some (.ld_A_n 0xCA) := by decide

/-- The table word of a row is the first instruction that runs after reset (log 20). -/
theorem test_withFetchWord_runs : yields (step (State.reset.withFetchWord 16 0x123E))
    (((State.reset.withFetchWord 16 0x123E).tick.tick.setPc 2).setReg .a 0x12) = true := by decide +kernel

/-! The vectors of spec/95_test_vectors.md sections 3 to 8, in the order of the numbers. -/

/-- Section 3: 8-bit loads (T1, T3, T4, T5, T6, T9, T10, T11, T12, T13, T16, T17, T18, T20, T21, T22, T23). -/
theorem test_vectors_load8 : [
    vector [0x41] 1 (fun s => ((s.setFlags ⟨true, true, true, true⟩).setReg .b 0x11).setReg .c 0x22)
      (fun s => ((s.setFlags ⟨true, true, true, true⟩).setReg .b 0x22).setReg .c 0x22),
    vector [0x16, 0xAB] 2 id (fun s => s.setReg .d 0xAB),
    vector [0x5E] 2 (fun s => (s.setPair .hl 0xC100).withByte 0xC100 0x5C) (fun s => s.setReg .e 0x5C),
    vector [0x75] 2 (fun s => s.setPair .hl 0xC155) (fun s => s.withByte 0xC155 0x55),
    vector [0x36, 0x99] 3 (fun s => s.setPair .hl 0xC100) (fun s => s.withByte 0xC100 0x99),
    vector [0xFA, 0x34, 0xC1] 4 (fun s => s.withByte 0xC134 0x77) (fun s => s.setReg .a 0x77),
    vector [0xEA, 0x80, 0xFF] 4 (fun s => s.setReg .a 0x42) (fun s => s.withByte 0xFF80 0x42),
    vector [0xE2] 2 (fun s => (s.setReg .a 0x9A).setReg .c 0x80) (fun s => s.withByte 0xFF80 0x9A),
    vector [0xF2] 2 (fun s => s.setReg .c 0x44) (fun s => s.setReg .a 0x00),
    vector [0xE0, 0x47] 3 (fun s => s.setReg .a 0xE4) (fun s => s.withBgp 0xE4),
    vector [0xF0, 0xFF] 3 (fun s => s.withIe 0x15) (fun s => s.setReg .a 0xF5),
    vector [0x22] 2 (fun s => (s.setPair .hl 0xC1FF).setReg .a 0x56)
      (fun s => (s.withByte 0xC1FF 0x56).setPair .hl 0xC200),
    vector [0x2A] 2 (fun s => (s.setPair .hl 0xFFFF).withIe 0x1F) (fun s => (s.setReg .a 0xFF).setPair .hl 0x0000),
    vector [0x3A] 2 (fun s => (s.setPair .hl 0x0000).withByte 0x0 0x3C)
      (fun s => (s.setReg .a 0x3C).setPair .hl 0xFFFF),
    vector [0x7E] 2 (fun s => s.setPair .hl 0xE000) (fun s => raiseFault (.unsupportedAddress 0xE000 .read) s),
    vector [0x7E] 2 (fun s => (s.setPair .hl 0xE000).withPolicy .openBus) (fun s => s.setReg .a 0xFF),
    vector [0x77] 2 (fun s => (s.setPair .hl 0xFEA0).setReg .a 0x01)
      (fun s => raiseFault (.unsupportedAddress 0xFEA0 .write) s)
  ].all id = true := by decide +kernel

/-- Section 4: 16-bit loads and the stack (T30, T32, T34, T38, T39, T41, T42). -/
theorem test_vectors_load16 : [
    vector [0x01, 0x34, 0x12] 3 id (fun s => s.setPair .bc 0x1234),
    vector [0x08, 0x00, 0xC1] 5 (fun s => s.setSp 0xFFF8) (fun s => (s.withByte 0xC100 0xF8).withByte 0xC101 0xFF),
    vector [0xF8, 0x02] 2 (fun s => (s.setFlags ⟨true, true, true, true⟩).setSp 0xFFF8)
      (fun s => ((s.setFlags ⟨false, false, false, false⟩).setPair .hl 0xFFFA).setSp 0xFFF8),
    vector [0xF5] 3 (fun s => (s.setFlags ⟨true, false, true, true⟩).setReg .a 0x12)
      (fun s => ((s.withByte 0xDFEE 0xB0).withByte 0xDFEF 0x12).setSp 0xDFEE),
    vector [0xF1] 3 (fun s => ((s.setSp 0xC100).withByte 0xC100 0xFF).withByte 0xC101 0x12)
      (fun s => ((s.setFlags ⟨true, true, true, true⟩).setReg .a 0x12).setSp 0xC102),
    vector [0xE5] 3 (fun s => (s.setPair .hl 0xABCD).setSp 0x0000)
      (fun s => ((s.setSp 0xFFFE).withByte 0xFFFE 0xCD).withIe 0x0B),
    vector [0xD1] 3 (fun s => ((s.setSp 0xFFFE).withByte 0xFFFE 0x11).withIe 0x0A)
      (fun s => (s.setPair .de 0xEA11).setSp 0x0000)
  ].all id = true := by decide +kernel

/-- Section 5: 8-bit arithmetic and logic (T50, T54, T56, T59, T62, T66, T67, T70, T72, T75, T77, T78, T80, T82, T83, T84, T85). -/
theorem test_vectors_alu8 : [
    vector [0x80] 1 (fun s => (s.setReg .a 0x3A).setReg .b 0xC6)
      (fun s => (s.setFlags ⟨true, false, true, true⟩).setReg .a 0x00),
    vector [0x86] 2 (fun s => ((s.setReg .a 0x3C).setPair .hl 0xC100).withByte 0xC100 0x12)
      (fun s => (s.setFlags ⟨false, false, false, false⟩).setReg .a 0x4E),
    vector [0xCE, 0x00] 2 (fun s => (s.setFlags ⟨false, false, false, true⟩).setReg .a 0x0F)
      (fun s => (s.setFlags ⟨false, false, true, false⟩).setReg .a 0x10),
    vector [0x93] 1 (fun s => (s.setReg .a 0x3E).setReg .e 0x3E)
      (fun s => (s.setFlags ⟨true, true, false, false⟩).setReg .a 0x00),
    vector [0x96] 2 (fun s => ((s.setReg .a 0x3E).setPair .hl 0xC100).withByte 0xC100 0x40)
      (fun s => (s.setFlags ⟨false, true, false, true⟩).setReg .a 0xFE),
    vector [0xDE, 0x0F] 2 (fun s => (s.setFlags ⟨false, false, false, true⟩).setReg .a 0x10)
      (fun s => (s.setFlags ⟨true, true, true, false⟩).setReg .a 0x00),
    vector [0xB8] 1 (fun s => (s.setReg .a 0x3C).setReg .b 0x2F)
      (fun s => (s.setFlags ⟨false, true, true, false⟩).setReg .a 0x3C),
    vector [0xA5] 1 (fun s => ((s.setFlags ⟨false, true, false, true⟩).setReg .a 0x5A).setReg .l 0x3F)
      (fun s => (s.setFlags ⟨false, false, true, false⟩).setReg .a 0x1A),
    vector [0xAF] 1 (fun s => (s.setFlags ⟨true, true, true, true⟩).setReg .a 0xFF)
      (fun s => (s.setFlags ⟨true, false, false, false⟩).setReg .a 0x00),
    vector [0xF6, 0x03] 2 (fun s => (s.setFlags ⟨true, true, true, true⟩).setReg .a 0x5A)
      (fun s => (s.setFlags ⟨false, false, false, false⟩).setReg .a 0x5B),
    vector [0x04] 1 (fun s => (s.setFlags ⟨true, true, false, false⟩).setReg .b 0x0F)
      (fun s => (s.setFlags ⟨false, false, true, false⟩).setReg .b 0x10),
    vector [0x34] 3 (fun s => (s.setPair .hl 0xC100).withByte 0xC100 0x50)
      (fun s => (s.setFlags ⟨false, false, false, false⟩).withByte 0xC100 0x51),
    vector [0x2D] 1 (fun s => (s.setFlags ⟨false, false, false, true⟩).setReg .l 0x00)
      (fun s => (s.setFlags ⟨false, true, true, true⟩).setReg .l 0xFF),
    vector [0x35] 3 (fun s => (s.setPair .hl 0xC100).withByte 0xC100 0x00)
      (fun s => (s.setFlags ⟨false, true, true, false⟩).withByte 0xC100 0xFF),
    vector [0x2F] 1 (fun s => (s.setFlags ⟨true, false, false, true⟩).setReg .a 0x35)
      (fun s => (s.setFlags ⟨true, true, true, true⟩).setReg .a 0xCA),
    vector [0x37] 1 (fun s => s.setFlags ⟨true, true, true, false⟩) (fun s => s.setFlags ⟨true, false, false, true⟩),
    vector [0x3F] 1 (fun s => s.setFlags ⟨true, true, true, true⟩) (fun s => s.setFlags ⟨true, false, false, false⟩)
  ].all id = true := by decide +kernel

/-- Section 5: `DAA` (T91, T98, T99). -/
theorem test_vectors_daa : [
    vector [0x27] 1 (fun s => (s.setFlags ⟨false, true, true, false⟩).setReg .a 0x4B)
      (fun s => (s.setFlags ⟨false, true, false, false⟩).setReg .a 0x45),
    vector [0x27] 1 (fun s => (s.setFlags ⟨false, false, false, false⟩).setReg .a 0xFF)
      (fun s => (s.setFlags ⟨false, false, false, true⟩).setReg .a 0x65),
    vector [0x27] 1 (fun s => (s.setFlags ⟨false, true, true, true⟩).setReg .a 0x00)
      (fun s => (s.setFlags ⟨false, true, false, true⟩).setReg .a 0x9A)
  ].all id = true := by decide +kernel

/-- Section 6: 16-bit arithmetic (T110, T113, T115, T116, T120, T123). -/
theorem test_vectors_alu16 : [
    vector [0x09] 1 (fun s => ((s.setFlags ⟨true, false, false, false⟩).setPair .hl 0x8A23).setPair .bc 0x0605)
      (fun s => (s.setFlags ⟨true, false, true, false⟩).setPair .hl 0x9028),
    vector [0x19] 1 (fun s => (s.setPair .hl 0x0FFF).setPair .de 0x0001)
      (fun s => (s.setFlags ⟨false, false, true, false⟩).setPair .hl 0x1000),
    vector [0x03] 1 (fun s => s.setPair .bc 0xFFFF)
      (fun s => (s.setFlags ⟨false, false, false, false⟩).setPair .bc 0x0000),
    vector [0x1B] 1 (fun s => (s.setFlags ⟨true, true, true, true⟩).setPair .de 0x0000)
      (fun s => (s.setFlags ⟨true, true, true, true⟩).setPair .de 0xFFFF),
    vector [0xE8, 0xFF] 2 (fun s => s.setSp 0x0001) (fun s => (s.setFlags ⟨false, false, true, true⟩).setSp 0x0000),
    vector [0xE8, 0x08] 2 (fun s => s.setSp 0xFFF8) (fun s => (s.setFlags ⟨false, false, true, true⟩).setSp 0x0000)
  ].all id = true := by decide +kernel

/-- Section 7: rotates, shifts and bit operations (T130, T132, T134, T135, T137, T139, T141, T143, T144, T146, T148, T151, T152, T156, T157, T158, T160, T162, T163). -/
theorem test_vectors_rotate_bit : [
    vector [0x07] 1 (fun s => (s.setFlags ⟨true, false, false, false⟩).setReg .a 0x85)
      (fun s => (s.setFlags ⟨false, false, false, true⟩).setReg .a 0x0B),
    vector [0x17] 1 (fun s => (s.setFlags ⟨false, false, false, true⟩).setReg .a 0x95)
      (fun s => (s.setFlags ⟨false, false, false, true⟩).setReg .a 0x2B),
    vector [0x0F] 1 (fun s => s.setReg .a 0x3B) (fun s => (s.setFlags ⟨false, false, false, true⟩).setReg .a 0x9D),
    vector [0x1F] 1 (fun s => (s.setFlags ⟨false, false, false, false⟩).setReg .a 0x81)
      (fun s => (s.setFlags ⟨false, false, false, true⟩).setReg .a 0x40),
    vector [0xCB, 0x00] 2 (fun s => s.setReg .b 0x85)
      (fun s => (s.setFlags ⟨false, false, false, true⟩).setReg .b 0x0B),
    vector [0xCB, 0x08] 2 (fun s => s.setReg .b 0x01)
      (fun s => (s.setFlags ⟨false, false, false, true⟩).setReg .b 0x80),
    vector [0xCB, 0x10] 2 (fun s => (s.setFlags ⟨false, false, false, true⟩).setReg .b 0x11)
      (fun s => (s.setFlags ⟨false, false, false, false⟩).setReg .b 0x23),
    vector [0xCB, 0x18] 2 (fun s => (s.setFlags ⟨false, false, false, true⟩).setReg .b 0x8A)
      (fun s => (s.setFlags ⟨false, false, false, false⟩).setReg .b 0xC5),
    vector [0xCB, 0x20] 2 (fun s => (s.setFlags ⟨false, false, false, true⟩).setReg .b 0x80)
      (fun s => (s.setFlags ⟨true, false, false, true⟩).setReg .b 0x00),
    vector [0xCB, 0x28] 2 (fun s => s.setReg .b 0x8A)
      (fun s => (s.setFlags ⟨false, false, false, false⟩).setReg .b 0xC5),
    vector [0xCB, 0x30] 2 (fun s => (s.setFlags ⟨false, false, false, true⟩).setReg .b 0xF1)
      (fun s => (s.setFlags ⟨false, false, false, false⟩).setReg .b 0x1F),
    vector [0xCB, 0x38] 2 (fun s => (s.setFlags ⟨false, false, false, true⟩).setReg .b 0xFF)
      (fun s => (s.setFlags ⟨false, false, false, true⟩).setReg .b 0x7F),
    vector [0xCB, 0x06] 4 (fun s => (s.setPair .hl 0xC100).withByte 0xC100 0x80)
      (fun s => (s.setFlags ⟨false, false, false, true⟩).withByte 0xC100 0x01),
    vector [0xCB, 0x65] 2 (fun s => (s.setFlags ⟨false, true, false, false⟩).setReg .l 0xEF)
      (fun s => (s.setFlags ⟨true, false, true, false⟩).setReg .l 0xEF),
    vector [0xCB, 0x46] 3 (fun s => ((s.setFlags ⟨false, false, false, true⟩).setPair .hl 0xC100).withByte 0xC100 0xFE)
      (fun s => (s.setFlags ⟨true, false, true, true⟩).withByte 0xC100 0xFE),
    vector [0xCB, 0xBF] 2 (fun s => (s.setFlags ⟨true, true, true, true⟩).setReg .a 0x80)
      (fun s => (s.setFlags ⟨true, true, true, true⟩).setReg .a 0x00),
    vector [0xCB, 0x9E] 4 (fun s => (s.setPair .hl 0xC100).withByte 0xC100 0xFF) (fun s => s.withByte 0xC100 0xF7),
    vector [0xCB, 0xFD] 2 (fun s => (s.setFlags ⟨true, true, true, true⟩).setReg .l 0x3B)
      (fun s => (s.setFlags ⟨true, true, true, true⟩).setReg .l 0xBB),
    vector [0xCB, 0xDE] 4 (fun s => (s.setPair .hl 0xC100).withByte 0xC100 0x00) (fun s => s.withByte 0xC100 0x08)
  ].all id = true := by decide +kernel

/-- Section 8: control transfer (T170, T172, T174, T177, T180, T182, T183, T185, T187, T188, T189). -/
theorem test_vectors_control : [
    vector [0xC3, 0x50, 0x01] 3 id (fun s => s.setPc 0x0150),
    vector [0xCA, 0x00, 0x80] 3 (fun s => s.setFlags ⟨false, false, false, false⟩) (fun s => s),
    vector [0xE9] 1 (fun s => s.setPair .hl 0xE000) (fun s => s.setPc 0xE000),
    vector [0x18, 0x80] 2 id (fun s => s.setPc 0xBF82),
    vector [0x20, 0x10] 2 (fun s => s.setFlags ⟨false, false, false, false⟩) (fun s => s.setPc 0xC012),
    vector [0xCD, 0x34, 0x12] 5 (fun s => s.setSp 0xDFF0)
      (fun s => (((s.setPc 0x1234).setSp 0xDFEE).withByte 0xDFEE 0x03).withByte 0xDFEF 0xC0),
    vector [0xC4, 0x34, 0x12] 3 (fun s => s.setFlags ⟨true, false, false, false⟩) (fun s => s.setSp 0xDFF0),
    vector [0xC9] 3 (fun s => ((s.setSp 0xC100).withByte 0xC100 0x03).withByte 0xC101 0x80)
      (fun s => (s.setPc 0x8003).setSp 0xC102),
    vector [0xC8] 1 (fun s => (((s.setFlags ⟨false, false, false, false⟩).setSp 0xC100).withByte 0xC100 0x03).withByte 0xC101 0x80)
      (fun s => s.setSp 0xC100),
    vector [0xD9] 3 (fun s => (((s.setSp 0xC100).withByte 0xC100 0x03).withByte 0xC101 0x80).setIme false)
      (fun s => (((s.setPc 0x8003).setSp 0xC102).setIme true).setEiPending false),
    vector [0xFF] 3 id (fun s => (((s.setPc 0x0038).setSp 0xDFEE).withByte 0xDFEE 0x01).withByte 0xDFEF 0xC0)
  ].all id = true := by decide +kernel

/-- Section 8: the system instructions (T193, T194, T198, T199, T201). -/
theorem test_vectors_system : [
    vector [0xF3] 1 (fun s => (s.setIme true).setEiPending true) (fun s => (s.setIme false).setEiPending false),
    vector [0xFB] 1 id (fun s => (s.setIme false).setEiPending true),
    vector [0x76] 1 id (fun s => s.setHalted true),
    vector [0x10, 0x00] 2 id (fun s => s.setStopped true),
    vector [0xD3] 1 id (fun s => raiseFault (.undefinedOpcode .standard 0xD3) s)
  ].all id = true := by decide +kernel

/-! The units: the worked examples S1 to S8 of the source and the vectors of sections 9 and 10. -/

/-- S1: the flag byte's round trip. -/
theorem test_S1_flags_round_trip : ∀ b : Byte, (Flags.decode b).encode = b &&& 0xF0 := by decide +kernel

/-- S3: timer and joypad pending, the timer first. -/
theorem test_S3_priority : (ackInterrupt ((bare.withIe 0b10100).withIf 0b10100)) =
    some (0x0050, (bare.withIe 0b10100).withIf 0b10000) := by decide +kernel

/-- S3, the second call. -/
theorem test_S3_priority_next : (ackInterrupt ((bare.withIe 0b10100).withIf 0b10000)) =
    some (0x0060, (bare.withIe 0b10100).withIf 0) := by decide +kernel

/-- S4: a second start in the middle of a transfer is ignored. -/
theorem test_S4_restart_ignored : (bare.setDma ⟨0xC1, 80, true⟩).busWrite 0xFF46 0x80 = bare.setDma ⟨0xC1, 80, true⟩ := by
  decide +kernel

/-- S4: tick 160 copies the last byte, and the transfer is still active. -/
theorem test_S4_last_byte : ((bare.withByte 0xC19F 0x3A).setDma ⟨0xC1, 159, true⟩).tick =
    (((bare.withByte 0xC19F 0x3A).setDma ⟨0xC1, 160, true⟩).withByte 0xFE9F 0x3A).withCounter 1 := by decide +kernel

/-- S5: the overflow reloads and raises in the same tick. -/
theorem test_S5_timer_overflow : timerTick (bare.setTimer ⟨3, 0xFF, 0x10, 0b101⟩) =
    (bare.setTimer ⟨4, 0x10, 0x10, 0b101⟩).withIf 0b00100 := by decide +kernel

/-- S6: entering pixel-transfer raises nothing, whatever is enabled. -/
theorem test_S6_pixel_transfer :
    ppuTick (bare.setPpu { bare.ppu with lcdc := 0x80, statEn := 0b1111, mode := .oamScan, modeCtr := 1 }) =
      bare.setPpu { bare.ppu with lcdc := 0x80, statEn := 0b1111, mode := .transfer, modeCtr := 43 } := by decide +kernel

/-- S7: the tile row `0x35`, `0xAE` decodes to 2, 0, 3, 1, 2, 3, 2, 1. -/
theorem test_S7_tile_decode :
    (List.range 8).map (tilePixel ((bare.withByte 0x8002 0x35).withByte 0x8003 0xAE) 0 1) = [2, 0, 3, 1, 2, 3, 2, 1] := by
  decide +kernel

/-- T210: service of the vblank interrupt, the timer's still pending. -/
theorem test_T210_service : yields (step (((bare.setIme true).withIe 0x05).withIf 0x05))
    ((((((bare.withIe 0x05).withIf 0x04).setSp 0xDFEE).withByte 0xDFEF 0xC0).setPc 0x0040).withCounter 2) = true := by
  decide +kernel

/-- T215: a fault inside interrupt service; the jump has not happened. -/
theorem test_T215_fault_in_service : yields (step ((((bare.setIme true).withIe 0x01).withIf 0x01).setSp 0xE002))
    (raiseFault (.unsupportedAddress 0xE000 .write) ((((bare.withIe 0x01).withIf 0).setSp 0xE000).withCounter 1)) = true := by
  decide +kernel

/-- T211, step 2: the enable is committed after the interrupt poll, and one instruction runs. -/
theorem test_T211_enable_is_late :
    yields (step (((bare.setEiPending true).withIe 0x04).withIf 0x04 |>.withByte 0xC000 0x3C))
      ((((((bare.setIme true).withIe 0x04).withIf 0x04).withByte 0xC000 0x3C).setReg .a 1).setPc 0xC001 |>.withCounter 1) = true := by
  decide +kernel

/-- T213, step 2: the halt ends without service, and the same step runs the instruction after it. -/
theorem test_T213_halt_ends : yields (step ((((bare.setHalted true).withIe 0x04).withIf 0x04).withByte 0xC000 0x3C))
      (((((bare.withIe 0x04).withIf 0x04).withByte 0xC000 0x3C).setReg .a 1).setPc 0xC001 |>.withCounter 1) = true := by
  decide +kernel

/-- T216, step 2: the write's tick comes first, then the divider is zeroed. -/
theorem test_T216_divider : yields (exec (.ldh_atN_A 0x04) (bare.withCounter 0x3FC3)) bare = true := by decide +kernel

/-- T217: the counter's wrap counts for every period. -/
theorem test_T217_wrap : timerTick (bare.setTimer ⟨0xFFFF, 0xFF, 0x10, 0b101⟩) =
    (bare.setTimer ⟨0, 0x10, 0x10, 0b101⟩).withIf 0x04 := by decide +kernel

/-- T218: register reads after reset in profile `boot`. -/
theorem test_T218_reads_at_reset :
    [0xFF41, 0xFF0F, 0xFFFF, 0xFF07, 0xFF00, 0xFF02, 0xFF44, 0xFF50, 0xFF10].map State.reset.busByte =
      [0x82, 0xE0, 0xE0, 0xF8, 0xFF, 0x7E, 0x00, 0xFF, 0xFF] := by decide +kernel

/-- T219: Start is held; its half of the buttons is selected, then the other. -/
theorem test_T219_joypad : [0x10, 0x20, 0x30].map (fun v => ((buttonDown .start bare).busWrite 0xFF00 v).busByte 0xFF00) =
    [0xD7, 0xEF, 0xFF] := by decide +kernel

/-- R371: the common setup of the renderer's examples. -/
def scene : State :=
  (((bare.withByte 0x8012 0x35).withByte 0x8013 0xAE).withByte 0x9800 0x01).setPpu
    { bare.ppu with lcdc := 0x91, bgp := 0xE4, ly := 1 }

/-- R371, cases c and d: the sprite, over tile 2. -/
def sprited (flags : Byte) : State :=
  ((((((scene.withByte 0xFE00 17).withByte 0xFE01 10).withByte 0xFE02 2).withByte 0xFE03 flags).withByte 0x8020 0xF0).withByte
    0x8021 0x0F).setPpu { scene.ppu with lcdc := 0x93, obp0 := 0xE4 }

def row (s : State) : List (BitVec 2) := (List.range 12).map (pixelShade s)

theorem test_R371_a : row scene = [2, 0, 3, 1, 2, 3, 2, 1, 0, 0, 0, 0] := by decide +kernel

theorem test_R371_b : row (scene.setPpu { scene.ppu with scx := 3 }) = [1, 2, 3, 2, 1, 0, 0, 0, 0, 0, 0, 0] := by decide +kernel

theorem test_R371_c : row (sprited 0x20) = [2, 0, 2, 2, 2, 2, 1, 1, 1, 1, 0, 0] := by decide +kernel

theorem test_R371_d : row (sprited 0xA0) = [2, 0, 3, 1, 2, 3, 2, 1, 1, 1, 0, 0] := by decide +kernel

theorem test_R371_e : row (scene.setPpu { scene.ppu with lcdc := 0xB1, wy := 0, wx := 11 }) =
    [2, 0, 3, 1, 2, 0, 3, 1, 2, 3, 2, 1] := by decide +kernel

theorem test_R371_f : row (((scene.withByte 0x9800 0x80).withByte 0x8802 0xFF).setPpu { scene.ppu with lcdc := 0x81 }) =
    [1, 1, 1, 1, 1, 1, 1, 1, 0, 0, 0, 0] := by decide +kernel

theorem test_R371_g : row (((scene.withByte 0x9800 0x7F).withByte 0x97F3 0xFF).setPpu { scene.ppu with lcdc := 0x81 }) =
    [2, 2, 2, 2, 2, 2, 2, 2, 0, 0, 0, 0] := by decide +kernel

theorem test_R371_h : row (scene.setPpu { scene.ppu with lcdc := 0x90 }) = [0, 0, 0, 0, 0, 0, 0, 0, 0, 0, 0, 0] := by
  decide +kernel

/-! Witnesses: for each obligation, states and operands that meet its hypotheses together, clause by clause, at the ends of their
ranges. -/

theorem witness_DecodeInvertsEncode :
    Instr.nop.wellFormed = true ∧ (Instr.jp_nn 0xFFFF).wellFormed = true ∧ Instr.set_7_A.wellFormed = true := by decide

theorem witness_EncodeInvertsDecode :
    decode [0x00, 0xAA] = .ok (.nop, [0xAA]) ∧ decode [0xCB, 0xFF] = .ok (.set_7_A, []) ∧
      decode [0xCD, 0x34, 0x12] = .ok (.call_nn 0x1234, []) := ⟨rfl, rfl, rfl⟩

theorem witness_RegisterLoads :
    Instr.ld_A_L.form = .ld (.reg .a) (.reg .l) ∧ (Instr.ld_B_n 0xFF).form = .ldImm (.reg .b) 0xFF := ⟨rfl, rfl⟩

/-- Pairs at the ends of supported ranges. -/
def edges : State := ((bare.setPair .hl 0xDFFF).setPair .bc 0xFE9F).setPair .de 0xFF00

theorem witness_LoadsFromMemory :
    edges.dmaSafe = true ∧ edges.supported (edges.pair .hl) = true ∧ edges.supported (edges.pair .bc) = true ∧
      edges.supported (edges.pair .de) = true ∧ edges.supported 0xFFFF = true ∧ edges.supported 0x0000 = true ∧
      Instr.ld_H_atHL.form = .ld (.reg .h) .atHL ∧ Instr.ld_A_atBC.form = .ldA .bc ∧ Instr.ld_A_atDE.form = .ldA .de ∧
      (Instr.ld_A_atNn 0xFFFF).form = .ldA (.abs 0xFFFF) ∧ Instr.ldh_A_atC.form = .ldA .ioC ∧
      (Instr.ldh_A_atN 0xFF).form = .ldA (.io 0xFF) ∧ Instr.ld_A_atHLinc.form = .ldA .hlInc ∧
      Instr.ld_A_atHLdec.form = .ldA .hlDec := by decide +kernel

theorem witness_StoresToMemory :
    edges.dmaSafe = true ∧ edges.supported (edges.pair .hl) = true ∧ edges.supported (edges.pair .bc) = true ∧
      edges.supported (edges.pair .de) = true ∧ edges.supported 0xFFFF = true ∧
      Instr.ld_atHL_L.form = .ld .atHL (.reg .l) ∧ (Instr.ld_atHL_n 0x99).form = .ldImm .atHL 0x99 ∧
      Instr.ld_atBC_A.form = .stA .bc ∧ Instr.ld_atDE_A.form = .stA .de ∧
      (Instr.ld_atNn_A 0xFFFF).form = .stA (.abs 0xFFFF) ∧ Instr.ldh_atC_A.form = .stA .ioC ∧
      (Instr.ldh_atN_A 0xFF).form = .stA (.io 0xFF) ∧ Instr.ld_atHLinc_A.form = .stA .hlInc ∧
      Instr.ld_atHLdec_A.form = .stA .hlDec := by decide +kernel

theorem witness_WordLoads :
    (Instr.ld_SP_nn 0xFFFE).form = .ldPair .sp 0xFFFE ∧ Instr.ld_SP_HL.form = .ldSPHL ∧
      (Instr.ld_HL_SPe 0x80).form = .ldHLSPe 0x80 := ⟨rfl, rfl, rfl⟩

/-- `sp` at the bottom of memory: the push wraps to high RAM and IE (R403). -/
theorem witness_WordStores :
    let s := bare.setSp 0x0000
    s.dmaSafe = true ∧ (Instr.ld_atNn_SP 0xFFFF).form = .ldNnSP 0xFFFF ∧ s.supported 0xFFFF = true ∧
      s.supported (0xFFFF + 1) = true ∧ (s.tick.busWrite 0xFFFF (lo s.cpu.sp)).dmaSafe = true ∧
      Instr.push_AF.form = .push .af ∧ s.supported (s.cpu.sp - 2) = true ∧ s.supported (s.cpu.sp - 1) = true ∧
      ((s.setSp (s.cpu.sp - 2)).tick.busWrite (s.cpu.sp - 2) (lo (s.stackPair .af))).dmaSafe = true := by decide +kernel

theorem witness_Pops :
    let s := bare.setSp 0xFFFE
    s.dmaSafe = true ∧ s.supported s.cpu.sp = true ∧ s.supported (s.cpu.sp + 1) = true ∧ Instr.pop_BC.form = .pop .bc ∧
      Instr.pop_DE.form = .pop .de ∧ Instr.pop_HL.form = .pop .hl ∧ Instr.pop_AF.form = .pop .af := by decide +kernel

theorem witness_Additions :
    edges.dmaSafe = true ∧ edges.supported (edges.pair .hl) = true ∧ Instr.add_A_B.form = .alu .add (.reg .b) ∧
      Instr.add_A_atHL.form = .alu .add .atHL ∧ (Instr.add_A_n 0xFF).form = .aluImm .add 0xFF ∧
      Instr.adc_A_A.form = .alu .adc (.reg .a) ∧ Instr.adc_A_atHL.form = .alu .adc .atHL ∧
      (Instr.adc_A_n 0x00).form = .aluImm .adc 0x00 := by decide +kernel

theorem witness_Subtractions :
    edges.dmaSafe = true ∧ edges.supported (edges.pair .hl) = true ∧ Instr.sub_B.form = .alu .sub (.reg .b) ∧
      Instr.sub_atHL.form = .alu .sub .atHL ∧ (Instr.sub_n 0xFF).form = .aluImm .sub 0xFF ∧
      Instr.sbc_A_A.form = .alu .sbc (.reg .a) ∧ Instr.sbc_A_atHL.form = .alu .sbc .atHL ∧
      (Instr.sbc_A_n 0x00).form = .aluImm .sbc 0x00 ∧ Instr.cp_A.form = .alu .cp (.reg .a) ∧
      Instr.cp_atHL.form = .alu .cp .atHL ∧ (Instr.cp_n 0xFF).form = .aluImm .cp 0xFF := by decide +kernel

theorem witness_LogicalOperations :
    edges.dmaSafe = true ∧ edges.supported (edges.pair .hl) = true ∧ Instr.and_B.form = .alu .and (.reg .b) ∧
      Instr.and_atHL.form = .alu .and .atHL ∧ (Instr.and_n 0xFF).form = .aluImm .and 0xFF ∧
      Instr.xor_A.form = .alu .xor (.reg .a) ∧ Instr.xor_atHL.form = .alu .xor .atHL ∧
      (Instr.xor_n 0x00).form = .aluImm .xor 0x00 ∧ Instr.or_A.form = .alu .or (.reg .a) ∧
      Instr.or_atHL.form = .alu .or .atHL ∧ (Instr.or_n 0xFF).form = .aluImm .or 0xFF := by decide +kernel

theorem witness_IncrementsAndDecrements :
    edges.dmaSafe = true ∧ edges.supported (edges.pair .hl) = true ∧ Instr.inc_A.form = .inc (.reg .a) ∧
      Instr.dec_L.form = .dec (.reg .l) ∧ Instr.inc_atHL.form = .inc .atHL ∧ Instr.dec_atHL.form = .dec .atHL := by
  decide +kernel

theorem witness_DecimalAdjust : Instr.daa.form = .daa := rfl

/-- 99 and 99, the greatest decimals; and 0 less 99. -/
theorem witness_DecimalAdjustIsDecimal :
    let s := (bare.setReg .a 0x99).setReg .b 0x99
    let u := bare.setReg .b 0x99
    s.reg .a = BitVec.ofNat 8 (16 * 9 + 9) ∧ s.reg .b = BitVec.ofNat 8 (16 * 9 + 9) ∧
      yields (exec .add_A_B s) (addTo s 0x99 false) = true ∧
      u.reg .a = BitVec.ofNat 8 (16 * 0 + 0) ∧ u.reg .b = BitVec.ofNat 8 (16 * 9 + 9) ∧
      yields (exec .sub_B u) (subFrom u 0x99 false) = true := by decide +kernel

theorem witness_ComplementsAndCarry : Instr.cpl.form = .cpl ∧ Instr.scf.form = .scf ∧ Instr.ccf.form = .ccf := ⟨rfl, rfl, rfl⟩

theorem witness_WordArithmetic :
    Instr.add_HL_SP.form = .addHL .sp ∧ Instr.inc_BC.form = .incPair .bc ∧ Instr.dec_SP.form = .decPair .sp ∧
      (Instr.add_SP_e 0x80).form = .addSP 0x80 := ⟨rfl, rfl, rfl, rfl⟩

theorem witness_RotatesOfA :
    Instr.rlca.form = .rlca ∧ Instr.rrca.form = .rrca ∧ Instr.rla.form = .rla ∧ Instr.rra.form = .rra := ⟨rfl, rfl, rfl, rfl⟩

theorem witness_RotatesAndShifts :
    edges.dmaSafe = true ∧ edges.supported (edges.pair .hl) = true ∧ Instr.rlc_B.form = .rot .rlc (.reg .b) ∧
      Instr.srl_A.form = .rot .srl (.reg .a) ∧ Instr.swap_atHL.form = .rot .swap .atHL := by decide +kernel

theorem witness_BitOperations :
    edges.dmaSafe = true ∧ edges.supported (edges.pair .hl) = true ∧ Instr.bit_0_B.form = .bit 0 (.reg .b) ∧
      Instr.res_7_A.form = .res 7 (.reg .a) ∧ Instr.set_7_A.form = .set 7 (.reg .a) ∧ Instr.bit_7_atHL.form = .bit 7 .atHL ∧
      Instr.res_0_atHL.form = .res 0 .atHL ∧ Instr.set_0_atHL.form = .set 0 .atHL := by decide +kernel

theorem witness_Jumps :
    (Instr.jp_nn 0xFFFF).form = .jp 0xFFFF ∧ (Instr.jp_NZ_nn 0).form = .jpCC .nz 0 ∧ Instr.jp_HL.form = .jpHL ∧
      (Instr.jr_e 0x80).form = .jr 0x80 ∧ (Instr.jr_C_e 0x7F).form = .jrCC .c 0x7F := ⟨rfl, rfl, rfl, rfl, rfl⟩

/-- Both outcomes of a condition; the stack at the bottom of memory. -/
theorem witness_Calls :
    let s := bare.setSp 0x0000
    (Instr.call_NZ_nn 0x1234).form = .callCC .nz 0x1234 ∧ s.cpu.holds .nz = true ∧
      (Instr.call_C_nn 0x1234).form = .callCC .c 0x1234 ∧ s.cpu.holds .c = false ∧ s.dmaSafe = true ∧
      s.supported (s.cpu.sp - 2) = true ∧ s.supported (s.cpu.sp - 1) = true ∧
      ((s.setSp (s.cpu.sp - 2)).tick.busWrite (s.cpu.sp - 2) (lo s.cpu.pc)).dmaSafe = true ∧
      (Instr.call_nn 0x1234).form = .call 0x1234 ∧ Instr.rst_38.form = .rst 7 := by decide +kernel

theorem witness_Returns :
    let s := bare.setSp 0xFFFE
    Instr.ret_NZ.form = .retCC .nz ∧ s.cpu.holds .nz = true ∧ Instr.ret_C.form = .retCC .c ∧ s.cpu.holds .c = false ∧
      s.dmaSafe = true ∧ s.supported s.cpu.sp = true ∧ s.supported (s.cpu.sp + 1) = true ∧ Instr.ret.form = .ret ∧
      Instr.reti.form = .reti := by decide +kernel

/-- Both policies for `STOP`. -/
theorem witness_SystemInstructions :
    Instr.nop.form = .nop ∧ Instr.halt.form = .halt ∧ (Instr.stop 0xFF).form = .stop 0xFF ∧ Instr.di.form = .di ∧
      Instr.ei.form = .ei ∧ bare.params.stopPolicy = .stop ∧
      (bare.setParams { params with stopPolicy := .fault }).params.stopPolicy = .fault := by decide +kernel

theorem witness_UndefinedOpcodes :
    Instr.undefined_D3.form = .undefined 0xD3 ∧ Instr.undefined_FD.form = .undefined 0xFD := ⟨rfl, rfl⟩

/-- Each access that faults, at the ends of the two unsupported ranges. -/
theorem witness_UnsupportedAccessFaults :
    let s := (bare.setPair .hl 0xE000).setPair .bc 0xFEFF
    let u := bare.setSp 0xFF01
    let v := bare.setSp 0xFEA0
    s.dmaSafe = true ∧ s.supported (s.pair .hl) = false ∧ Instr.ld_B_atHL.form = .ld (.reg .b) .atHL ∧
      Instr.set_7_atHL.form = .set 7 .atHL ∧ Instr.ld_atHL_B.form = .ld .atHL (.reg .b) ∧
      s.supported (accAddress .bc s) = false ∧ Instr.ld_A_atBC.form = .ldA .bc ∧ Instr.ld_atBC_A.form = .stA .bc ∧
      (Instr.ld_atNn_SP 0xFDFF).form = .ldNnSP 0xFDFF ∧ s.supported 0xFDFF = false ∧
      u.dmaSafe = true ∧ u.supported (u.cpu.sp - 2) = false ∧ Instr.push_BC.form = .push .bc ∧
      (Instr.call_NZ_nn 0).form = .callCC .nz 0 ∧ u.cpu.holds .nz = true ∧
      v.dmaSafe = true ∧ v.supported v.cpu.sp = false ∧ Instr.pop_AF.form = .pop .af ∧ Instr.ret.form = .ret := by
  decide +kernel

/-- The second byte of a word faults alone: at the top of work RAM and of `oam`. -/
theorem witness_UnsupportedAccessFaults_second :
    let s := bare.setSp 0xE001
    let t := bare.setSp 0xFE9F
    s.dmaSafe = true ∧ s.supported 0xDFFF = true ∧ s.supported (0xDFFF + 1) = false ∧
      (Instr.ld_atNn_SP 0xDFFF).form = .ldNnSP 0xDFFF ∧
      s.supported (s.cpu.sp - 2) = true ∧ s.supported (s.cpu.sp - 1) = false ∧ Instr.push_AF.form = .push .af ∧
      Instr.rst_38.form = .rst 7 ∧
      t.dmaSafe = true ∧ t.supported t.cpu.sp = true ∧ t.supported (t.cpu.sp + 1) = false ∧ Instr.reti.form = .reti := by
  decide +kernel

/-- A fetch that faults at its first, second and third byte; and the two pushes of interrupt service. -/
theorem witness_UnsupportedAccessFaults_step :
    let s0 := bare.setPc 0xFDFF
    let s1 := (bare.withByte 0xDFFF 0xC3).setPc 0xDFFF
    let s2 := (bare.withByte 0xDFFE 0xC3).setPc 0xDFFE
    let q := ((bare.setIme true).withIe 0b10000).withIf 0b10000
    bare.params.acceptable = true ∧ bare.fault = none ∧ bare.cpu.stopped = false ∧ bare.cpu.halted = false ∧
      bare.cpu.ime = false ∧ bare.dmaSafe = true ∧
      s0.supported (s0.cpu.pc + 0) = false ∧
      1 < instrLength ((s1.ticks 1).busByte 0xDFFF) ∧ s1.supported (0xDFFF + 0) = true ∧ s1.supported (0xDFFF + 1) = false ∧
      2 < instrLength ((s2.ticks 1).busByte 0xDFFE) ∧ s2.supported (0xDFFE + 0) = true ∧ s2.supported (0xDFFE + 1) = true ∧
      s2.supported (0xDFFE + 2) = false ∧
      q.cpu.ime = true ∧ q.irq.ie.getLsbD 4 = true ∧ q.irq.if_.getLsbD 4 = true ∧
      (∀ j : Fin 4, (q.irq.ie.getLsbD j && q.irq.if_.getLsbD j) = false) ∧
      (q.setSp 0xFF01).supported (0xFF01 - 2) = false ∧
      (q.setSp 0xE001).supported (0xE001 - 2) = true ∧ (q.setSp 0xE001).supported (0xE001 - 1) = false := by decide +kernel

theorem witness_CpuFrame :
    yields (exec .inc_B bare) ((bare.setReg .b 1).setFlags ⟨false, false, false, false⟩) = true ∧
      Reg8.c ∉ destRegs (effectForm .inc_B) ∧ writesSp (effectForm .inc_B) = false ∧
      (writesFlags (effectForm .inc_B)).c = false ∧ (writesFlags (effectForm .nop)).z = false ∧
      (writesFlags (effectForm .nop)).n = false ∧ (writesFlags (effectForm .nop)).h = false ∧
      effectForm .inc_B ≠ .di ∧ effectForm .inc_B ≠ .reti ∧ effectForm .inc_B ≠ .ei ∧ effectForm .inc_B ≠ .halt := by
  decide +kernel

/-- The byte beside the one stored to; and a byte of `oam` with no transfer running. -/
theorem witness_MemoryFrame :
    let s := (bare.setPair .hl 0xC100).setReg .a 0x77
    yields (exec .ld_atHL_A s) ((s.withByte 0xC100 0x77).withCounter 1) = true ∧
      0xC101 ∉ storesTo (effectForm .ld_atHL_A) s ∧ 0xFE9F ∉ storesTo (effectForm .ld_atHL_A) s ∧ s.dma.active = false ∧
      0xFF46 ∉ storesTo (effectForm .ld_atHL_A) s := by decide +kernel

theorem witness_NonStoringFrame :
    yields (exec .pop_BC bare) ((bare.setSp 0xDFF2).withCounter 2) = true ∧ storesTo (effectForm .pop_BC) bare = [] ∧
      yields (exec .ld_B_C bare) bare = true ∧ storesTo (effectForm .ld_B_C) bare = [] ∧
      dataAccesses (effectForm .ld_B_C) bare = 0 ∧ effectForm .ld_B_C = .ld (.reg .b) (.reg .c) := by decide +kernel

theorem witness_TickPerAccess :
    yields (exec .pop_BC bare) ((bare.setSp 0xDFF2).withCounter 2) = true ∧
      ((bare.setSp 0xDFF2).withCounter 2).fault = none ∧ 0xFF04 ∉ storesTo (effectForm .pop_BC) bare := by decide +kernel

theorem witness_BusAccesses :
    bare.dmaSafe = true ∧ bare.supported 0xFFFF = true ∧ bare.supported (0xFFFF + 1) = true ∧
      (bare.tick.busWrite 0xFFFF (lo 0x1234)).dmaSafe = true := by decide +kernel

/-- The two states the overlay makes differ, with the default cartridge. -/
theorem witness_ReadDispatch :
    State.reset.bootActive = true ∧ bare.bootActive = false ∧ bare.params.cart = .romOnly ∧
      (0x00FF#16).toNat < 0x100 ∧ 0x100 ≤ (0x0100#16).toNat ∧ (0x3FFF#16).toNat < 0x4000 ∧
      regionOf 0x4000 = .bank1 ∧ regionOf 0x7FFF = .bank1 ∧ regionOf 0x8000 = .vram ∧ regionOf 0x9FFF = .vram ∧
      regionOf 0xA000 = .cartRam ∧ regionOf 0xBFFF = .cartRam ∧ regionOf 0xC000 = .wram ∧ regionOf 0xDFFF = .wram ∧
      regionOf 0xFE00 = .oam ∧ regionOf 0xFE9F = .oam ∧ regionOf 0xFF80 = .hram ∧ regionOf 0xFFFE = .hram := by decide +kernel

/-- A cartridge of another kind with its RAM never enabled (R84). -/
theorem witness_WriteDispatch :
    bare.params.cart = .romOnly ∧ bare.cart.ramEnabled = false ∧ bare.dma.active = false ∧
      (bare.setDma ⟨0xC1, 80, true⟩).dma.active = true := by decide +kernel

theorem witness_HolesInTheMap :
    bare.params.unmappedPolicy = .fault ∧ (bare.withPolicy .openBus).params.unmappedPolicy = .openBus ∧
      [0xE000, 0xFDFF, 0xFEA0, 0xFEFF].all (fun a => bare.supported a = false) = true ∧
      [0xDFFF, 0xFE00, 0xFE9F, 0xFF00].all (fun a => bare.supported a = true) = true ∧
      [0xFF03, 0xFF08, 0xFF0E, 0xFF10, 0xFF3F, 0xFF4C, 0xFF4F, 0xFF51, 0xFF7F].all (fun a => ioRegAt a = none) = true := by
  decide +kernel

/-- The three cases of a tick, the last at the counter's wrap. -/
theorem witness_TimerTickRule :
    let due (t : Timer) : Bool := decide (4 ≤ t.tac.toNat) &&
      decide ((t.counter + 1).toNat % ([255, 3, 15, 63].getD (t.tac.toNat % 4) 0 + 1) = 0)
    due ⟨0xFFFF, 0, 0, 0b011⟩ = false ∧ due ⟨2, 0xFF, 0, 0b101⟩ = false ∧ due ⟨3, 0xFE, 0, 0b101⟩ = true ∧
      due ⟨0xFFFF, 0xFF, 0x10, 0b100⟩ = true := by decide +kernel

theorem witness_TimerPeriod :
    let s := bare.setTimer ⟨0xFFFF, 0xFF, 0x10, 0b111⟩
    s.dmaSafe = true ∧ 4 ≤ s.timer.tac.toNat ∧ s.timer.tima = 0xFF := by decide +kernel

theorem witness_DmaTransfer :
    (0xDF : Byte).toNat < 0xE0 ∧ (bare.setDma ⟨0xDF, 0, true⟩).dma = { src := 0xDF, off := 0, active := true } := by
  decide +kernel

theorem witness_DmaFromUnsupportedPage :
    let s := bare.setDma ⟨0xFD, 159, true⟩
    s.dma.active = true ∧ s.dma.off.toNat < 160 ∧ s.params.unmappedPolicy = .fault ∧ 0xE0 ≤ s.dma.src.toNat ∧
      s.dma.src.toNat ≤ 0xFD := by decide +kernel

/-- The power off and on, the counter above 1 and at 1, the last visible lines, the last line of the frame. -/
theorem witness_PpuTickRule :
    let p := { bare.ppu with lcdc := 0x80, modeCtr := 1 }
    bare.ppu.lcdc.getLsbD 7 = false ∧ p.lcdc.getLsbD 7 = true ∧ 2 ≤ bare.ppu.modeCtr ∧ p.mode = .oamScan ∧
      ({ p with mode := .hblank, ly := 142 } : Ppu).ly.toNat < 143 ∧ ({ p with mode := .hblank, ly := 143 } : Ppu).ly.toNat = 143 ∧
      ({ p with mode := .vblank, ly := 152 } : Ppu).ly.toNat + 1 < params.totalLines ∧
      params.totalLines ≤ ({ p with mode := .vblank, ly := 153 } : Ppu).ly.toNat + 1 := by decide +kernel

theorem witness_VisibleLineTiming :
    let s := bare.setPpu { bare.ppu with lcdc := 0x80, ly := 142 }
    s.dmaSafe = true ∧ s.params.timingOk = true ∧ s.ppu.lcdc.getLsbD 7 = true ∧ s.ppu.mode = .oamScan ∧
      s.ppu.modeCtr = s.params.oamCycles ∧ s.ppu.ly.toNat < 143 := by decide +kernel

/-- Background off; a window pixel and a background pixel, the window's first column (R371, case e). -/
theorem witness_BackgroundPixel :
    let s := scene.setPpu { scene.ppu with lcdc := 0xB1, wy := 1, wx := 11 }
    (scene.setPpu { scene.ppu with lcdc := 0x90 }).ppu.lcdc.getLsbD 0 = false ∧ s.ppu.lcdc.getLsbD 0 = true ∧
      s.ppu.lcdc.getLsbD 5 = true ∧ s.ppu.wy.toNat ≤ s.ppu.ly.toNat ∧ s.ppu.wx.toNat ≤ 4 + 7 ∧
      ¬ s.ppu.wx.toNat ≤ 3 + 7 := by decide +kernel

/-- R371, case d: behind the background entry 0 shows at column 9, and nothing shows at column 2. -/
theorem witness_SpritePriority :
    let s := sprited 0xA0
    s.ppu.lcdc.getLsbD 1 = true ∧ spriteOnLine s 0 = true ∧ spritePixel s 0 9 = some 1 ∧
      (s.oam (4 * 0 + 3)).getLsbD 7 = true ∧ (bgPixel s 9).1 = 0 ∧ (bgPixel s 2).1 ≠ 0 ∧
      (List.range 40).all (fun n => n = 0 ∨ spriteOnLine s n = false) = true := by decide +kernel

/-- R368, by hand: an 8 by 16 sprite of tile byte 3 begins with row 0 of tile 2; flipped, with row 7 of tile 3. -/
theorem test_sprite_tall :
    let s := (((scene.withByte 0xFE00 17).withByte 0xFE01 10).withByte 0xFE02 3).setPpu { scene.ppu with lcdc := 0x97 }
    spritePixel ((s.withByte 0xFE03 0x00).withByte 0x8021 0xFF) 0 2 = some 2 ∧
      spritePixel ((s.withByte 0xFE03 0x40).withByte 0x803E 0xFF) 0 2 = some 1 := by decide +kernel

/-- Entry 0 of `sprited` (y 17, x 10) at its first and last column and beside them, on the line it begins at. -/
theorem witness_SpritePixel :
    let s := sprited 0x20
    let x (k : Nat) : Int := k - (((s.oam 1).toNat : Int) - 8)
    let sy : Int := ((s.oam 0).toNat : Int) - 16
    x 2 = 0 ∧ x 9 = 7 ∧ ¬ (0 ≤ x 1 ∧ x 1 < 8) ∧ ¬ (0 ≤ x 10 ∧ x 10 < 8) ∧ sy = s.ppu.ly.toNat := by decide +kernel

theorem witness_RenderLineDraws : (159 : Nat) < 160 ∧ (2 : Nat) ≠ scene.ppu.ly.toNat := by decide +kernel

/-- The highest source, the lowest with no other, and none. -/
theorem witness_AcknowledgePriority :
    ((bare.withIe 0b11111).withIf 0b10001).irq.if_.getLsbD 0 = true ∧
      ((bare.withIe 0b10000).withIf 0b11111).irq.if_.getLsbD 4 = true ∧
      (∀ j : Fin 4, (((bare.withIe 0b10000).withIf 0b11111).irq.ie.getLsbD j &&
        ((bare.withIe 0b10000).withIf 0b11111).irq.if_.getLsbD j) = false) ∧
      (∀ j : Fin 5, (bare.irq.ie.getLsbD j && bare.irq.if_.getLsbD j) = false) := by decide +kernel

theorem witness_InterruptService :
    let s := ((bare.setIme true).withIe 0b10000).withIf 0b10000
    let t := ((((s.setIrq { s.irq with if_ := s.irq.if_ &&& ~~~ (BitVec.twoPow 5 4) }).setIme false).setEiPending
      false).setHalted false).setSp (s.cpu.sp - 2)
    s.params.acceptable = true ∧ s.fault = none ∧ s.cpu.stopped = false ∧ s.cpu.ime = true ∧ s.irq.ie.getLsbD 4 = true ∧
      s.irq.if_.getLsbD 4 = true ∧ (∀ j : Fin 4, (s.irq.ie.getLsbD j && s.irq.if_.getLsbD j) = false) ∧ s.dmaSafe = true ∧
      s.supported (s.cpu.sp - 2) = true ∧ s.supported (s.cpu.sp - 1) = true ∧
      (t.tick.busWrite (s.cpu.sp - 2) (lo s.cpu.pc)).dmaSafe = true := by decide +kernel

/-- A three-byte instruction in the bare state. -/
theorem witness_StepRunsDecoded :
    let s := ((bare.withByte 0xC000 0xC3).withByte 0xC001 0x50).withByte 0xC002 0x01
    let u := s.setCpu { s.cpu with ime := s.cpu.ime || s.cpu.eiPending, eiPending := false, halted := false }
    s.params.acceptable = true ∧ s.fault = none ∧ s.cpu.stopped = false ∧ s.cpu.ime = false ∧ s.cpu.halted = false ∧
      s.dmaSafe = true ∧ decodesTo ([0xC3, 0x50, 0x01], .jp_nn 0x0150) = true ∧
      (∀ k : Fin 3, s.supported (s.cpu.pc + BitVec.ofNat 16 k) = true ∧
        (u.ticks (k + 1)).busByte (s.cpu.pc + BitVec.ofNat 16 k) = [0xC3, 0x50, 0x01].getD k 0) := by decide +kernel

theorem witness_SleepAndIdleSteps :
    bare.params.acceptable = true ∧ (bare.setStopped true).cpu.stopped = true ∧
      (raiseFault (.undefinedOpcode .standard 0xD3) bare).fault ≠ none ∧ bare.fault = none ∧ bare.cpu.stopped = false ∧
      (bare.setHalted true).cpu.halted = true ∧ bare.irq.ie &&& bare.irq.if_ = 0 := by decide +kernel

theorem witness_ButtonEvents :
    (buttonDown .start bare).joypad.pressed.getLsbD Button.start.bit = true ∧
      bare.joypad.pressed.getLsbD Button.start.bit = false := by decide +kernel

theorem witness_EnableIsDelayed :
    bare.params.acceptable = true ∧ bare.fault = none ∧ bare.cpu.stopped = false ∧ bare.cpu.halted = false ∧
      bare.cpu.ime = false := by decide +kernel

/-- The bare state meets the invariant, and its next step (`NOP` from unwritten work RAM) is not refused. -/
theorem witness_StepKeepsInvariant :
    Inv bare ∧ yields (step bare) ((bare.setPc 0xC001).withCounter 1) = true :=
  ⟨⟨by decide +kernel, by unfold PpuInv; decide +kernel, by decide +kernel, by decide +kernel, by decide +kernel⟩,
    by decide +kernel⟩

theorem witness_StepRespectsRom :
    yields (step bare) ((bare.setPc 0xC001).withCounter 1) = true ∧ (0x7FFF#16).toNat < 0x8000 ∧
      State.reset.bootActive = true := by decide +kernel

theorem witness_TickFrame : ((bare.withIf 0b11111).irq.if_.getLsbD 4) = true := by decide +kernel

/-- Both profiles, with the default `RAM_INIT`. -/
theorem witness_ResetValues :
    State.reset.params.resetProfile = .boot ∧ ¬ bare.params.resetProfile = .boot ∧ bare.params.ramInit = [] := by
  decide +kernel

end Sys2Proof.Tests
end

section
/-! PROOF. The machine's invariant (`Inv`) holds after reset and every step keeps it: one lemma per constructor of `Reach`, over the
equations of the PPU's transitions. -/

namespace Sys2Proof.Machine

/-! The PPU's transitions (R353), mode by mode. -/

theorem ppuExpire_oamScan {s : State} (h : s.ppu.mode = .oamScan) : ppuExpire s = ppuEnter .transfer s := by
  rw [ppuExpire, h]

theorem ppuExpire_transfer {s : State} (h : s.ppu.mode = .transfer) :
    ppuExpire s = ppuEnter .hblank (renderLine s) := by
  rw [ppuExpire, h]

theorem ppuExpire_hblank {s : State} (h : s.ppu.mode = .hblank) :
    ppuExpire s =
      if (s.ppu.ly + 1).toNat < visibleLines then ppuEnter .oamScan (setScanline (s.ppu.ly + 1) s)
      else ppuEnter .vblank (vsync (setScanline (s.ppu.ly + 1) s)) := by
  simp only [ppuExpire, h, setScanline_ppu]

theorem ppuExpire_vblank {s : State} (h : s.ppu.mode = .vblank) :
    ppuExpire s =
      if s.ppu.ly.toNat + 1 < s.params.totalLines then reloadBudget (setScanline (s.ppu.ly + 1) s)
      else ppuEnter .oamScan (setScanline 0 s) := by
  rw [ppuExpire, h]

/-- The machine whose mode has one cycle less left. -/
def ppuCountDown (s : State) : State := s.setPpu { s.ppu with modeCtr := s.ppu.modeCtr - 1 }

/-- Everything `PpuTick` can do (R353): nothing with the power off, else a count, and a transition where the count is used up. -/
theorem ppuTick_cases (s : State) :
    (s.ppu.lcdc.getLsbD 7 = false ∧ ppuTick s = s) ∨
    (s.ppu.lcdc.getLsbD 7 = true ∧ s.ppu.modeCtr - 1 ≠ 0 ∧ ppuTick s = ppuCountDown s) ∨
    (s.ppu.lcdc.getLsbD 7 = true ∧ s.ppu.modeCtr - 1 = 0 ∧ ppuTick s = ppuExpire (ppuCountDown s)) := by
  have key : ppuTick s =
      if s.ppu.lcdc.getLsbD 7 = false then s
      else if s.ppu.modeCtr - 1 ≠ 0 then ppuCountDown s else ppuExpire (ppuCountDown s) := rfl
  rw [key]
  cases s.ppu.lcdc.getLsbD 7
  · exact .inl ⟨rfl, rfl⟩
  · by_cases hc : s.ppu.modeCtr - 1 = 0
    · exact .inr (.inr ⟨rfl, hc, by simp [hc]⟩)
    · exact .inr (.inl ⟨rfl, hc, by simp [hc]⟩)

/-! The PPU's part of the invariant. -/

/-- `ly` is a line the mode can be on: the clause of `PpuInv` that does not speak of the counter. -/
def LineOfMode (s : State) : Prop :=
  if s.ppu.mode = .vblank then visibleLines ≤ s.ppu.ly.toNat ∧ s.ppu.ly.toNat < s.params.totalLines
  else s.ppu.ly.toNat < visibleLines

theorem ppuInv_iff (s : State) :
    PpuInv s ↔ 1 ≤ s.ppu.modeCtr ∧ s.ppu.modeCtr ≤ budget s.params s.ppu.mode ∧ LineOfMode s := Iff.rfl

theorem lineOfMode_visible {s : State} (hm : s.ppu.mode ≠ .vblank) : LineOfMode s ↔ s.ppu.ly.toNat < visibleLines := by
  rw [LineOfMode, if_neg hm]

theorem lineOfMode_vblank {s : State} (hm : s.ppu.mode = .vblank) :
    LineOfMode s ↔ visibleLines ≤ s.ppu.ly.toNat ∧ s.ppu.ly.toNat < s.params.totalLines := by
  rw [LineOfMode, if_pos hm]

theorem timingOk_iff (p : Params) : p.timingOk = true ↔
    1 ≤ p.oamCycles ∧ 1 ≤ p.xferCycles ∧ 1 ≤ p.hblankCycles ∧ 1 ≤ p.vblankLineCycles ∧
      visibleLines < p.totalLines ∧ p.totalLines ≤ 256 := by
  rw [Params.timingOk, decide_eq_true_iff]

theorem budget_pos {p : Params} (h : p.timingOk = true) (m : PpuMode) : 1 ≤ budget p m := by
  obtain ⟨hoam, hxfer, hhblank, hvblank, _, _⟩ := (timingOk_iff p).mp h
  cases m <;> assumption

/-- The next line's number does not wrap below the last one (log 15). -/
theorem line_succ_toNat {y : Byte} (h : y.toNat + 1 < 256) : (y + 1).toNat = y.toNat + 1 := by
  rw [BitVec.toNat_add]
  exact Nat.mod_eq_of_lt h

/-- A mode is entered with its whole budget. -/
theorem ppuEnter_ppuInv {m : PpuMode} {s : State} (ht : s.params.timingOk = true) (hl : LineOfMode (ppuEnter m s)) :
    PpuInv (ppuEnter m s) := by
  have hb := budget_pos ht m
  refine (ppuInv_iff _).mpr ⟨?_, ?_, hl⟩ <;> simp only [ppuEnter_ppu, ppuEnter_params]
  · exact hb
  · exact Nat.le_refl _

theorem ppuEnter_visible_ppuInv {m : PpuMode} {s : State} (ht : s.params.timingOk = true) (hm : m ≠ .vblank)
    (hl : s.ppu.ly.toNat < visibleLines) : PpuInv (ppuEnter m s) := by
  apply ppuEnter_ppuInv ht
  rw [lineOfMode_visible] <;> rw [ppuEnter_ppu]
  · exact hl
  · exact hm

theorem ppuEnter_vblank_ppuInv {s : State} (ht : s.params.timingOk = true) (hl : visibleLines ≤ s.ppu.ly.toNat)
    (hlt : s.ppu.ly.toNat < s.params.totalLines) : PpuInv (ppuEnter .vblank s) := by
  apply ppuEnter_ppuInv ht
  rw [lineOfMode_vblank] <;> rw [ppuEnter_ppu]
  exact ⟨hl, by rwa [ppuEnter_params]⟩

/-- A transition from a line of its mode ends in the next mode's budget and lines (R353). -/
theorem ppuExpire_ppuInv {s : State} (ht : s.params.timingOk = true) (hl : LineOfMode s) : PpuInv (ppuExpire s) := by
  obtain ⟨_, _, _, hvblank, hlines, hbound⟩ := (timingOk_iff _).mp ht
  cases hm : s.ppu.mode with
  | oamScan =>
    rw [ppuExpire_oamScan hm]
    exact ppuEnter_visible_ppuInv ht (by decide) ((lineOfMode_visible (by simp [hm])).mp hl)
  | transfer =>
    rw [ppuExpire_transfer hm]
    have hly := (lineOfMode_visible (by simp [hm])).mp hl
    exact ppuEnter_visible_ppuInv (s := renderLine s) ht (by decide) hly
  | hblank =>
    have hly := (lineOfMode_visible (by simp [hm])).mp hl
    have hnext : (s.ppu.ly + 1).toNat = s.ppu.ly.toNat + 1 := line_succ_toNat (by omega)
    rw [ppuExpire_hblank hm]
    split
    · next hvis => exact ppuEnter_visible_ppuInv (by simpa using ht) (by decide) (by rwa [setScanline_ppu])
    · next hlast =>
      refine ppuEnter_vblank_ppuInv (s := vsync _) ?_ ?_ ?_
      · simpa [vsync] using ht
      · simpa [vsync, setScanline_ppu] using hlast
      · simp only [vsync, State.setSink_ppu, State.setSink_params, setScanline_ppu, setScanline_params]
        omega
  | vblank =>
    obtain ⟨hfrom, _⟩ := (lineOfMode_vblank hm).mp hl
    rw [ppuExpire_vblank hm]
    split
    · next hmore =>
      have hnext : (s.ppu.ly + 1).toNat = s.ppu.ly.toNat + 1 := line_succ_toNat (by omega)
      have hp : (reloadBudget (setScanline (s.ppu.ly + 1) s)).ppu =
          { s.ppu with ly := s.ppu.ly + 1, lycFlag := s.ppu.ly + 1 == s.ppu.lyc,
                       modeCtr := s.params.vblankLineCycles } := by
        simp [reloadBudget, setScanline_ppu]
      have hq : (reloadBudget (setScanline (s.ppu.ly + 1) s)).params = s.params := by simp [reloadBudget]
      rw [ppuInv_iff, lineOfMode_vblank] <;> simp only [hp, hq, hm, budget]
      omega
    · exact ppuEnter_visible_ppuInv (by simpa using ht) (by decide) (by simp [setScanline_ppu, visibleLines])

theorem ppuTick_ppuInv {s : State} (ht : s.params.timingOk = true) (h : PpuInv s) : PpuInv (ppuTick s) := by
  obtain ⟨hpos, hle, hl⟩ := (ppuInv_iff s).mp h
  rcases ppuTick_cases s with ⟨_, e⟩ | ⟨_, hleft, e⟩ | ⟨_, _, e⟩ <;> rw [e]
  · exact h
  · exact (ppuInv_iff (ppuCountDown s)).mpr ⟨Nat.pos_of_ne_zero hleft, Nat.le_trans (Nat.sub_le _ _) hle, hl⟩
  · exact ppuExpire_ppuInv (s := ppuCountDown s) ht hl

/-! The framebuffer: a transition draws at most the current line, and only a visible one. -/

theorem fbWfFrom_cons (lowest y : Nat) (row : List (BitVec 2)) (rest : List (Nat × List (BitVec 2))) :
    fbWfFrom lowest ((y, row) :: rest) = true ↔
      (lowest ≤ y ∧ y < visibleLines ∧ row.length = 160) ∧ fbWfFrom (y + 1) rest = true := by
  rw [fbWfFrom, Bool.and_eq_true, decide_eq_true_iff]

theorem fbWfFrom_setLine {fb : List (Nat × List (BitVec 2))} {lowest y : Nat} {row : List (BitVec 2)}
    (h : fbWfFrom lowest fb = true) (hlow : lowest ≤ y) (hy : y < visibleLines) (hrow : row.length = 160) :
    fbWfFrom lowest (setLine fb y row) = true := by
  induction fb generalizing lowest with
  | nil => exact (fbWfFrom_cons _ _ _ _).mpr ⟨⟨hlow, hy, hrow⟩, rfl⟩
  | cons line rest ih =>
    obtain ⟨y', row'⟩ := line
    obtain ⟨⟨hlow', hy', hrow'⟩, hrest⟩ := (fbWfFrom_cons _ _ _ _).mp h
    rw [setLine]
    split
    · next hlt =>
      exact (fbWfFrom_cons _ _ _ _).mpr ⟨⟨hlow, hy, hrow⟩, (fbWfFrom_cons _ _ _ _).mpr ⟨⟨hlt, hy', hrow'⟩, hrest⟩⟩
    · split
      · next heq => exact (fbWfFrom_cons _ _ _ _).mpr ⟨⟨hlow, hy, hrow⟩, heq ▸ hrest⟩
      · exact (fbWfFrom_cons _ _ _ _).mpr ⟨⟨hlow', hy', hrow'⟩, ih hrest (by omega)⟩

theorem renderLine_fbWf {s : State} (hl : s.ppu.ly.toNat < visibleLines) (h : fbWfFrom 0 s.sink.fb = true) :
    fbWfFrom 0 (renderLine s).sink.fb = true :=
  fbWfFrom_setLine h (Nat.zero_le _) hl (by simp)

theorem ppuExpire_fbWf {s : State} (hl : LineOfMode s) (h : fbWfFrom 0 s.sink.fb = true) :
    fbWfFrom 0 (ppuExpire s).sink.fb = true := by
  cases hm : s.ppu.mode with
  | oamScan => rwa [ppuExpire_oamScan hm, ppuEnter_sink]
  | transfer =>
    rw [ppuExpire_transfer hm, ppuEnter_sink]
    exact renderLine_fbWf ((lineOfMode_visible (by simp [hm])).mp hl) h
  | hblank =>
    rw [ppuExpire_hblank hm]
    split
    · rwa [ppuEnter_sink, setScanline_sink]
    · rwa [ppuEnter_sink, vsync, State.setSink_sink, setScanline_sink]
  | vblank =>
    rw [ppuExpire_vblank hm]
    split
    · rwa [reloadBudget, State.setPpu_sink, setScanline_sink]
    · rwa [ppuEnter_sink, setScanline_sink]

theorem ppuTick_fbWf {s : State} (hl : LineOfMode s) (h : fbWfFrom 0 s.sink.fb = true) :
    fbWfFrom 0 (ppuTick s).sink.fb = true := by
  rcases ppuTick_cases s with ⟨_, e⟩ | ⟨_, _, e⟩ | ⟨_, _, e⟩ <;> rw [e]
  · exact h
  · exact h
  · exact ppuExpire_fbWf (s := ppuCountDown s) hl h

/-! The invariant, operation by operation. -/

/-- The invariant speaks of these parts of the state only. -/
theorem Inv.congr {s t : State} (h : Inv s) (mem : t.mem = s.mem) (mode : t.ppu.mode = s.ppu.mode)
    (modeCtr : t.ppu.modeCtr = s.ppu.modeCtr) (ly : t.ppu.ly = s.ppu.ly) (off : t.dma.off = s.dma.off)
    (fb : t.sink.fb = s.sink.fb) (params : t.params = s.params) : Inv t where
  mem := mem ▸ h.mem
  ppu := by unfold PpuInv; rw [mode, modeCtr, ly, params]; exact h.ppu
  dma := off ▸ h.dma
  fb := fb ▸ h.fb
  timing := params ▸ h.timing

theorem setMem_inv {s : State} (h : Inv s) {m : Memory} (hm : m.wf = true) : Inv (s.setMem m) :=
  ⟨hm, h.ppu, h.dma, h.fb, h.timing⟩

theorem setDma_inv {s : State} (h : Inv s) {d : Dma} (hd : d.off.toNat ≤ 160) : Inv (s.setDma d) :=
  ⟨h.mem, h.ppu, hd, h.fb, h.timing⟩

theorem setCart_inv {s : State} (h : Inv s) (c : CartState) : Inv (s.setCart c) := h.congr rfl rfl rfl rfl rfl rfl rfl

theorem setFault_inv {s : State} (h : Inv s) (f : Option Fault) : Inv (s.setFault f) :=
  h.congr rfl rfl rfl rfl rfl rfl rfl

theorem clock_inv {s : State} (h : Inv s) : Inv (timerTick (ppuTick s)) := by
  have only := clock_clockOnly s
  refine ⟨only.mem ▸ h.mem, ?_, only.dma ▸ h.dma, ?_, only.params ▸ h.timing⟩
  · unfold PpuInv
    rw [timerTick_ppu, (timerTick_clockOnly _).params]
    exact ppuTick_ppuInv h.timing h.ppu
  · obtain ⟨_, _, hl⟩ := (ppuInv_iff s).mp h.ppu
    rw [timerTick_sink]
    exact ppuTick_fbWf hl h.fb

theorem dmaNext_inv {s : State} (h : Inv s) (ho : s.dma.off.toNat < 160) : Inv (dmaNext s) := by
  refine setDma_inv h ?_
  rw [BitVec.toNat_add]
  exact Nat.le_trans (Nat.mod_le _ _) ho

theorem dmaTick_inv {s : State} (h : Inv s) : Inv (dmaTick s).state := by
  rcases dmaTick_cases s with ⟨_, e⟩ | ⟨_, _, e⟩ | ⟨_, ho, _, e⟩ | ⟨_, ho, _, e⟩ <;> rw [e]
  · exact h
  · exact setDma_inv h h.dma
  · exact setMem_inv (dmaNext_inv h ho) (Memory.wf_write h.mem _ _)
  · exact setFault_inv (dmaNext_inv h ho) _

theorem tick_inv {s : State} (h : Inv s) : Inv s.tick := by
  rcases tick_eq s with e | e <;> rw [e]
  · exact dmaTick_inv h
  · exact clock_inv (dmaTick_inv h)

theorem dmaInitialize_inv {s : State} (h : Inv s) (v : Byte) : Inv (dmaInitialize v s) := by
  unfold dmaInitialize
  split
  · exact h
  · exact setDma_inv h (Nat.zero_le _)

/-- No register write reaches the mode, its counter or the line (R41). -/
theorem writeReg_inv {s : State} (h : Inv s) (r : IoReg) (v : Byte) : Inv (writeReg s r v) := by
  cases r
  case dma => exact dmaInitialize_inv h v
  all_goals exact h.congr rfl rfl rfl rfl rfl rfl rfl

theorem ioWrite_inv {s : State} (h : Inv s) (a : Word) (v : Byte) : Inv (ioWrite s a v) := by
  unfold ioWrite
  split
  · exact writeReg_inv h _ v
  · exact h

theorem cartWriteControl_inv {s : State} (h : Inv s) (a : Word) (v : Byte) : Inv (cartWriteControl s a v) := by
  unfold cartWriteControl
  split
  · exact h
  · exact setCart_inv h _

theorem cartWriteRam_inv {s : State} (h : Inv s) (a : Word) (v : Byte) : Inv (cartWriteRam s a v) := by
  unfold cartWriteRam
  split
  · exact h
  · split
    · exact setCart_inv h _
    · exact h

theorem busWrite_inv {s : State} (h : Inv s) (a : Word) (v : Byte) : Inv (s.busWrite a v) := by
  have ram : Inv (s.setMem (s.mem.write a v)) := setMem_inv h (Memory.wf_write h.mem a v)
  unfold State.busWrite
  cases regionOf a
  case bank0 => exact cartWriteControl_inv h a v
  case bank1 => exact cartWriteControl_inv h a v
  case cartRam => exact cartWriteRam_inv h a v
  case unsupported => exact h
  case io => exact ioWrite_inv h a v
  case oam =>
    dsimp only
    split
    · exact h
    · exact ram
  all_goals exact ram

/-- Whatever the CPU does, the invariant stays. -/
theorem reach_inv {W : Word → Prop} {s t : State} (h : Inv s) (r : Reach W s t) : Inv t := by
  induction r with
  | refl => exact h
  | cpu k _ ih => exact ih.congr rfl rfl rfl rfl rfl rfl rfl
  | tick _ ih => exact tick_inv ih
  | write a v _ _ ih => exact busWrite_inv ih a v
  | ack i _ ih => exact ih.congr rfl rfl rfl rfl rfl rfl rfl
  | fault f _ ih => exact setFault_inv ih _

/-- Settles O55: a step is within reach of its state, and everything within reach keeps the invariant. -/
theorem stepKeepsInvariant : Obligations.StepKeepsInvariant :=
  fun _ _ h hstep => reach_inv h (step_reach hstep)

end Sys2Proof.Machine
end

section
/-! PROOF. Reset (R44, R390): it meets the invariant wherever the ROM image, the framebuffer and the timing do, and leaves the values
of R44. -/

namespace Sys2Proof.Machine

theorem ppuInv_resetWith {p : Params} (hp : p.timingOk = true) (mem : Memory) (fb : List (Nat × List (BitVec 2))) :
    PpuInv (State.resetWith p mem fb) :=
  ⟨((timingOk_iff p).mp hp).1, Nat.le_refl _, Nat.zero_lt_succ _⟩

theorem resetWith_inv {p : Params} {mem : Memory} {fb : List (Nat × List (BitVec 2))} (hp : p.timingOk = true)
    (hm : mem.wf = true) (hf : fbWfFrom 0 fb = true) : Inv (State.resetWith p mem fb) where
  mem := Memory.wf_reset hm p.ramInit
  ppu := ppuInv_resetWith hp mem fb
  dma := Nat.zero_le _
  fb := hf
  timing := hp

/-- Settles O56: nothing is in memory or drawn, and the default timing is acceptable. -/
theorem resetMeetsInvariant : Obligations.ResetMeetsInvariant :=
  resetWith_inv (by decide) rfl rfl

/-- The cells of the addresses that meet a condition. -/
theorem Memory.lookup_filter_address (m : Memory) (p : Nat → Bool) (a : Nat) :
    Memory.lookup (m.filter fun c => p c.1) a = if p a then Memory.lookup m a else unlisted a := by
  induction m with
  | nil => simp [Memory.lookup]
  | cons c m ih =>
    obtain ⟨b, w⟩ := c
    by_cases hb : b = a
    · subst hb
      cases hp : p b <;> simp_all [Memory.lookup]
    · cases hp : p b <;> simp_all [Memory.lookup]

/-- Where `RAM_INIT` lists nothing, reset leaves the ROM image and clears the rest (R390, R394). -/
theorem Memory.read_reset_nil (m : Memory) (a : Word) :
    (Memory.reset m []).read a = if a.toNat < 0x8000 then m.read a else 0 := by
  have h := Memory.lookup_filter_address m (fun b => decide (b < 0x8000)) a.toNat
  simp only [decide_eq_true_eq] at h
  unfold Memory.read Memory.reset
  rw [List.foldl_nil, h]
  split
  · rfl
  · next ha => rw [unlisted, if_neg ha]

/-- Settles O59: the two profiles differ in the CPU's values, `lcdc`, `bgp` and the boot latch; every other value is the same. -/
theorem resetValues : Obligations.ResetValues := by
  intro s
  refine ⟨fun hb => ?_, fun hb => ?_, rfl, rfl, rfl, rfl, rfl, rfl, rfl, rfl, rfl, rfl, rfl, rfl, rfl, rfl, rfl, rfl, rfl,
    rfl, rfl, rfl, fun hr a => ?_⟩
  · simp [hostReset, State.resetWith, Cpu.reset, Ppu.reset, hb]
  · have hb : s.params.resetProfile = .postBoot := by
      cases h : s.params.resetProfile
      · exact absurd h hb
      · rfl
    simp [hostReset, State.resetWith, Cpu.reset, Ppu.reset, hb]
  · show (Memory.reset s.mem s.params.ramInit).read a = _
    rw [hr, Memory.read_reset_nil]

end Sys2Proof.Machine
end

section
/-! PROOF. The memory-mapped registers (R41): an access of a register's address reaches that register, what its packed byte is as a
number, and the two statements about the columns of R41. -/

namespace Sys2Proof.Machine

/-! An access of a register's address. -/

theorem ioRegAt_region {a : Word} {r : IoReg} (h : ioRegAt a = some r) : regionOf a = .io := by
  have table : ∀ p ∈ ioTable, regionOf p.1 = .io := by decide
  obtain ⟨l₁, l₂, hl, _⟩ := List.lookup_eq_some_iff.mp h
  exact table (a, r) (by simp [hl])

/-- The boot overlay does not reach the I/O page (R68). -/
theorem overlaid_of_io (s : State) {a : Word} (h : regionOf a = .io) : s.overlaid a = false := by
  have := (regionOf_io a).mp h
  simp only [State.overlaid, Bool.and_eq_false_iff, decide_eq_false_iff_not]
  omega

theorem busByte_register (s : State) (r : IoReg) {a : Word} (h : ioRegAt a = some r) : s.busByte a = readReg s r := by
  simp [State.busByte, overlaid_of_io s (ioRegAt_region h), ioRegAt_region h, ioRead, h]

theorem busWrite_register (s : State) (r : IoReg) {a : Word} (v : Byte) (h : ioRegAt a = some r) :
    s.busWrite a v = writeReg s r v := by
  simp [State.busWrite, ioRegAt_region h, ioWrite, h]

/-! Packed fields as numbers. -/

theorem toNat_append_eq_mul_add {m n : Nat} (x : BitVec m) (y : BitVec n) :
    (x ++ y).toNat = x.toNat * 2 ^ n + y.toNat := by
  rw [BitVec.toNat_append, ← Nat.shiftLeft_add_eq_or_of_lt y.isLt, Nat.shiftLeft_eq]

theorem flagBit_toNat (b : Bool) : (flagBit b).toNat = b.toNat := by cases b <;> rfl

theorem unused_toNat (s : State) (k : Nat) : (s.unused k).toNat = (2 ^ k - 1) * s.params.unusedReadBits.toNat := by
  unfold State.unused fill
  cases s.params.unusedReadBits <;> simp

/-- A bit of the button nibble is 0 where a selected column holds a pressed button (R325). -/
theorem joypad_nibble_getLsbD (j : Joypad) {k : Nat} (hk : k < 4) :
    j.nibble.getLsbD k =
      !((!j.sel.getLsbD 0 && j.pressed.getLsbD k) || (!j.sel.getLsbD 1 && j.pressed.getLsbD (k + 4))) := by
  have released : (0b1111#4).getLsbD k = true := by
    rw [show 0b1111#4 = BitVec.allOnes 4 from rfl, BitVec.getLsbD_allOnes, decide_eq_true hk]
  unfold Joypad.nibble
  cases j.sel.getLsbD 0 <;> cases j.sel.getLsbD 1 <;>
    simp [hk, released, Nat.add_comm k 4]

theorem joypad_read_getLsbD (j : Joypad) (u : Bool) {k : Nat} (hk : k < 4) :
    (j.read u).getLsbD k = j.nibble.getLsbD k := by
  rw [Joypad.read, BitVec.getLsbD_append, if_pos hk]

theorem joypad_read_high (s : State) :
    (s.joypad.read s.params.unusedReadBits).toNat / 16 = 12 * s.params.unusedReadBits.toNat + s.joypad.sel.toNat := by
  have hu := unused_toNat s 2
  rw [State.unused] at hu
  rw [Joypad.read, toNat_append_eq_mul_add, toNat_append_eq_mul_add, hu]
  have := s.joypad.nibble.isLt
  omega

theorem readReg_sc (s : State) :
    (readReg s .sc).toNat = 128 * s.serial.scStart.toNat + 126 * s.params.unusedReadBits.toNat + s.serial.scClock.toNat := by
  simp only [readReg, toNat_append_eq_mul_add, flagBit_toNat, unused_toNat]
  omega

theorem readReg_tac (s : State) : (readReg s .tac).toNat = 248 * s.params.unusedReadBits.toNat + s.timer.tac.toNat := by
  simp only [readReg, toNat_append_eq_mul_add, unused_toNat]
  omega

theorem readReg_if (s : State) : (readReg s .if_).toNat = 224 * s.params.unusedReadBits.toNat + s.irq.if_.toNat := by
  simp only [readReg, toNat_append_eq_mul_add, unused_toNat]
  omega

theorem readReg_ie (s : State) : (readReg s .ie).toNat = 224 * s.params.unusedReadBits.toNat + s.irq.ie.toNat := by
  simp only [readReg, toNat_append_eq_mul_add, unused_toNat]
  omega

theorem readReg_stat (s : State) :
    (readReg s .stat).toNat = 128 * s.params.unusedReadBits.toNat + 8 * s.ppu.statEn.toNat + 4 * s.ppu.lycFlag.toNat +
      s.ppu.mode.code.toNat := by
  simp only [readReg, toNat_append_eq_mul_add, flagBit_toNat, unused_toNat]
  omega

/-- `DIV` shows bits 13..6 of the counter (R310). -/
theorem readReg_div (s : State) : readReg s .div = BitVec.ofNat 8 (s.timer.counter.toNat / 64) := by
  apply BitVec.eq_of_toNat_eq
  simp [readReg, BitVec.extractLsb'_toNat, Nat.shiftRight_eq_div_pow]

/-- A byte read at a register's address, where its fields make a number. -/
theorem busByte_eq_ofNat {s : State} (r : IoReg) {a : Word} {n : Nat} (h : ioRegAt a = some r)
    (hn : (readReg s r).toNat = n) : s.busByte a = BitVec.ofNat 8 n := by
  rw [busByte_register s r h]
  exact (BitVec.toNat_eq_nat.mp hn).2

/-- Settles O38: each address of R41 reads as its register, whose packed fields are added up. -/
theorem registerReads : Obligations.RegisterReads := by
  intro s
  have hu : (if s.params.unusedReadBits = true then 1 else 0) = s.params.unusedReadBits.toNat := by
    cases s.params.unusedReadBits <;> rfl
  have joyp : s.busByte 0xFF00 = s.joypad.read s.params.unusedReadBits := busByte_register s .joyp rfl
  simp only [hu]
  refine ⟨fun k hk => ?_, ?_, busByte_register s .sb rfl, busByte_eq_ofNat .sc rfl (readReg_sc s),
    (busByte_register s .div rfl).trans (readReg_div s), busByte_register s .tima rfl, busByte_register s .tma rfl,
    busByte_eq_ofNat .tac rfl (readReg_tac s), busByte_eq_ofNat .if_ rfl (readReg_if s), busByte_register s .lcdc rfl,
    busByte_eq_ofNat .stat rfl (readReg_stat s), busByte_register s .scy rfl, busByte_register s .scx rfl,
    busByte_register s .ly rfl, busByte_register s .lyc rfl, busByte_register s .dma rfl, busByte_register s .bgp rfl,
    busByte_register s .obp0 rfl, busByte_register s .obp1 rfl, busByte_register s .wy rfl, busByte_register s .wx rfl,
    busByte_register s .boot rfl, busByte_eq_ofNat .ie rfl (readReg_ie s)⟩
  · rw [joyp, joypad_read_getLsbD _ _ hk, joypad_nibble_getLsbD _ hk]
  · rw [joyp, joypad_read_high]

/-- Settles O39: a write of an address of R41 is its register's row of the write column. -/
theorem registerWrites : Obligations.RegisterWrites := by
  intro s v
  have row (r : IoReg) {a : Word} (h : ioRegAt a = some r) : s.busWrite a v = writeReg s r v := busWrite_register s r v h
  exact ⟨row .joyp rfl, row .sb rfl, row .sc rfl, row .div rfl, row .tima rfl, row .tma rfl, row .tac rfl, row .if_ rfl,
    row .lcdc rfl, row .stat rfl, row .scy rfl, row .scx rfl, row .ly rfl, row .lyc rfl, row .dma rfl, row .bgp rfl,
    row .obp0 rfl, row .obp1 rfl, row .wy rfl, row .wx rfl, row .boot rfl, row .ie rfl⟩

end Sys2Proof.Machine
end

section
/-! PROOF. What reaches memory (R67, R69, R318): a write reaches its own byte, and only in a RAM; a tick reaches `oam` only. Hence the
ROM image stays whatever a step runs, and memory as a whole but for an instruction's own stores and a running transfer. -/

namespace Sys2Proof.Machine

/-- A write leaves every byte but its own, and its own too outside the RAMs. -/
theorem busWrite_read (s : State) {a b : Word} (v : Byte) (h : b = a → isRam a.toNat = false) :
    (s.busWrite a v).mem.read b = s.mem.read b := by
  rcases busWrite_mem s a v with e | ⟨e, hram⟩ <;> rw [e]
  apply Memory.read_write_other
  intro hb
  exact absurd ((h hb).symm.trans hram) (by decide)

theorem isRam_rom {n : Nat} (h : n < 0x8000) : isRam n = false := by
  simp only [isRam, Bool.or_eq_false_iff, decide_eq_false_iff_not]
  omega

theorem regionOf_rom_ne_oam {a : Word} (h : a.toNat < 0x8000) : regionOf a ≠ .oam := by
  rw [ne_eq, regionOf_oam]
  omega

/-- `t` has the ROM image, the held buttons and the parameters of `s`, and its boot latch is set only if that of `s` is. -/
structure KeepsRom (s t : State) : Prop where
  rom : ∀ a : Word, a.toNat < 0x8000 → t.mem.read a = s.mem.read a
  bootActive : t.bootActive = true → s.bootActive = true
  pressed : t.joypad.pressed = s.joypad.pressed
  params : t.params = s.params

theorem KeepsRom.refl (s : State) : KeepsRom s s := ⟨fun _ _ => rfl, id, rfl, rfl⟩

theorem KeepsRom.trans {s t u : State} (h : KeepsRom s t) (k : KeepsRom t u) : KeepsRom s u :=
  ⟨fun a ha => (k.rom a ha).trans (h.rom a ha), h.bootActive ∘ k.bootActive, k.pressed.trans h.pressed,
    k.params.trans h.params⟩

theorem tick_keepsRom (s : State) : KeepsRom s s.tick where
  rom a ha := tick_mem s a (.inr (regionOf_rom_ne_oam ha))
  bootActive h := tick_bootActive s ▸ h
  pressed := by rw [tick_joypad]
  params := tick_params s

theorem busWrite_keepsRom (s : State) (a : Word) (v : Byte) : KeepsRom s (s.busWrite a v) where
  rom _ hb := busWrite_read s v fun e => isRam_rom (e ▸ hb)
  bootActive := (busWrite_busOnly s a v).bootActive
  pressed := (busWrite_busOnly s a v).pressed
  params := busWrite_params s a v

theorem reach_keepsRom {W : Word → Prop} {s t : State} (r : Reach W s t) : KeepsRom s t := by
  induction r with
  | refl => exact .refl _
  | cpu k _ ih => exact ih.trans ⟨fun _ _ => rfl, id, rfl, rfl⟩
  | tick _ ih => exact ih.trans (tick_keepsRom _)
  | write a v _ _ ih => exact ih.trans (busWrite_keepsRom _ a v)
  | ack i _ ih => exact ih.trans ⟨fun _ _ => rfl, id, rfl, rfl⟩
  | fault f _ ih => exact ih.trans ⟨fun _ _ => rfl, id, rfl, rfl⟩

/-- Settles O57: a step is within reach of its state, and nothing within reach writes ROM, the latch, the buttons or the parameters. -/
theorem stepRespectsRom : Obligations.StepRespectsRom := by
  intro s t hstep
  obtain ⟨rom, bootActive, pressed, params⟩ := reach_keepsRom (step_reach hstep)
  exact ⟨rom, bootActive, pressed, params⟩

/-- Only a store to 0xFF46 starts a transfer (R316). -/
theorem reach_dmaIdle {W : Word → Prop} {s t : State} (r : Reach W s t) (hW : ¬ W 0xFF46) (h : s.dma.active = false) :
    t.dma.active = false := by
  induction r with
  | refl => exact h
  | cpu k _ ih => exact ih
  | @tick t _ ih =>
    cases ht : t.tick.dma.active
    · rfl
    · exact absurd (ih.symm.trans (tick_dmaActive ht)) (by decide)
  | write a v ha _ ih =>
    rw [busWrite_dma _ v (by rintro rfl; exact hW ha)]
    exact ih
  | ack i _ ih => exact ih
  | fault f _ ih => exact ih

/-- A byte that is not stored to stays, `oam` apart where a transfer can run. -/
theorem reach_read {W : Word → Prop} {s t : State} (r : Reach W s t) {a : Word} (ha : ¬ W a)
    (hoam : regionOf a = .oam → s.dma.active = false ∧ ¬ W 0xFF46) : t.mem.read a = s.mem.read a := by
  induction r with
  | refl => rfl
  | cpu k _ ih => exact ih
  | tick r ih =>
    rw [tick_mem, ih]
    by_cases hr : regionOf a = .oam
    · obtain ⟨hidle, hW⟩ := hoam hr
      exact .inl (reach_dmaIdle r hW hidle)
    · exact .inr hr
  | write b v hb _ ih =>
    rw [busWrite_read, ih]
    rintro rfl
    exact absurd hb ha
  | ack i _ ih => exact ih
  | fault f _ ih => exact ih

/-- What an instruction answers is within reach, with no write but to the addresses its form stores to. -/
theorem exec_reach {i : Instr} {s t : State} (h : exec i s = .next t) : Reach (· ∈ storesTo (effectForm i) s) s t := by
  obtain ⟨u, hu, r⟩ := exec_next i s
  rw [hu] at h
  injection h with h
  exact h ▸ r

/-- Settles O31: an instruction stays within reach of its state, with the addresses its form stores to. -/
theorem memoryFrame : Obligations.MemoryFrame := by
  intro i s t a hexec ha hoam
  exact reach_read (exec_reach hexec) ha fun hr => hoam ((regionOf_oam a).mp hr)

end Sys2Proof.Machine
end

section
/-! PROOF. An access of an unsupported address ends the step with the fault latched (R74, R292, R293): the state a raise leaves, then the
operations whose first raise it is, form by form, then the two phases of a step that make accesses before or without an instruction. -/

namespace Sys2Proof.Machine

theorem Flow.outcome_of_raised {α : Type} {x : Flow α} {t : State} (h : x = .raised t) : x.outcome = .next t := by rw [h]; rfl

theorem Flow.bind_of_raised {α β : Type} {x : Flow α} {t : State} (h : x = .raised t) (f : α → State → Flow β) :
    x.bind f = .raised t := by rw [h]; rfl

/-- A fault latched in a state whose CPU is known records that CPU's registers (R290). -/
theorem raiseFault_of_cpu {t : State} {k : Cpu} (kind : Snapshot → Fault) (h : t.cpu = k) :
    raiseFault kind t = t.setFault (some (kind k.snapshot)) := by rw [← h]; rfl

/-! The operands in memory. -/

section
variable {s : State}

/-- The state after an access that faults in a state whose transfer is safe. -/
def faultedAccess (a : Word) (d : Dir) (s : State) : State :=
  s.tick.setFault (some (.unsupportedAddress a d s.cpu.snapshot))

theorem readByte_faulted {a : Word} (h : s.dmaSafe = true) (ha : s.supported a = false) :
    readByte a s = .raised (faultedAccess a .read s) := by
  rw [readByte_raised h ha, raiseFault_of_cpu _ (tick_cpu s)]
  rfl

theorem writeByte_faulted {a : Word} (v : Byte) (h : s.dmaSafe = true) (ha : s.supported a = false) :
    writeByte a v s = .raised (faultedAccess a .write s) := by
  rw [writeByte_raised v h ha, raiseFault_of_cpu _ (tick_cpu s)]
  rfl

/-- The forms that read the byte at `HL` first. -/
def ReadsAtHL (f : Form) : Prop :=
  (∃ r, f = .ld (.reg r) .atHL) ∨ (∃ op, f = .alu op .atHL) ∨ f = .inc .atHL ∨ f = .dec .atHL ∨
    (∃ k, f = .rot k .atHL) ∨ (∃ b, f = .bit b .atHL) ∨ (∃ b, f = .res b .atHL) ∨ (∃ b, f = .set b .atHL)

/-- The operation of such a form begins with that read. -/
theorem execForm_readsAtHL {f : Form} (hf : ReadsAtHL f) (s : State) :
    ∃ g : Byte → State → Flow Unit, execForm f s = ((readByte (s.pair .hl) s).bind g).outcome := by
  rcases hf with ⟨r, rfl⟩ | ⟨op, rfl⟩ | rfl | rfl | ⟨k, rfl⟩ | ⟨b, rfl⟩ | ⟨b, rfl⟩ | ⟨b, rfl⟩ <;> exact ⟨_, rfl⟩

theorem execForm_readsAtHL_faulted {f : Form} (hf : ReadsAtHL f) (h : s.dmaSafe = true)
    (ha : s.supported (s.pair .hl) = false) : execForm f s = .next (faultedAccess (s.pair .hl) .read s) := by
  obtain ⟨g, e⟩ := execForm_readsAtHL hf s
  rw [e, readByte_faulted h ha]
  rfl

/-- The forms whose only access is a store at `HL`. -/
theorem execForm_storesAtHL_faulted {f : Form} (hf : (∃ r, f = .ld .atHL (.reg r)) ∨ ∃ n, f = .ldImm .atHL n)
    (h : s.dmaSafe = true) (ha : s.supported (s.pair .hl) = false) :
    execForm f s = .next (faultedAccess (s.pair .hl) .write s) := by
  rcases hf with ⟨r, rfl⟩ | ⟨n, rfl⟩
  · exact Flow.outcome_of_raised (writeByte_faulted (s.reg r) h ha)
  · exact Flow.outcome_of_raised (writeByte_faulted n h ha)

theorem loadA_faulted {m : AccMem} (h : s.dmaSafe = true) (ha : s.supported (accAddress m s) = false) :
    loadA m s = .next (faultedAccess (accAddress m s) .read s) :=
  Flow.outcome_of_raised (Flow.bind_of_raised (readByte_faulted h ha) _)

theorem storeA_faulted {m : AccMem} (h : s.dmaSafe = true) (ha : s.supported (accAddress m s) = false) :
    storeA m s = .next (faultedAccess (accAddress m s) .write s) :=
  Flow.outcome_of_raised (Flow.bind_of_raised (writeByte_faulted _ h ha) _)

/-! Words and the stack. -/

theorem storeSP_faulted {nn : Word} (h : s.dmaSafe = true) (ha : s.supported nn = false) :
    storeSP nn s = .next (faultedAccess nn .write s) :=
  Flow.outcome_of_raised ((writeWord_raised _ h ha).trans (by rw [raiseFault_of_cpu _ (tick_cpu s)]; rfl))

theorem storeSP_faulted_high {nn : Word} (h : s.dmaSafe = true) (ha : s.supported nn = true)
    (hb : s.supported (nn + 1) = false) :
    storeSP nn s = .next ((s.tick.busWrite nn (lo s.cpu.sp)).tick.setFault
      (some (.unsupportedAddress (nn + 1) .write s.cpu.snapshot))) := by
  refine Flow.outcome_of_raised ((writeWord_raised_high _ h ha hb).trans ?_)
  rw [raiseFault_of_cpu (k := s.cpu) _ (by simp)]

/-- The registers a fault in a push records: `sp` has moved (R150). -/
theorem pushWord_faulted (v : Word) (h : s.dmaSafe = true) (ha : s.supported (s.cpu.sp - 2) = false) :
    pushWord v s = .raised ((s.setSp (s.cpu.sp - 2)).tick.setFault
      (some (.unsupportedAddress (s.cpu.sp - 2) .write { s.cpu.snapshot with sp := s.cpu.sp - 2 }))) := by
  rw [pushWord_raised v h ha, raiseFault_of_cpu _ (tick_cpu _)]
  rfl

theorem pushWord_faulted_high (v : Word) (h : s.dmaSafe = true) (ha : s.supported (s.cpu.sp - 2) = true)
    (hb : s.supported (s.cpu.sp - 1) = false) :
    pushWord v s = .raised ((afterPushLow v s).tick.setFault
      (some (.unsupportedAddress (s.cpu.sp - 1) .write { s.cpu.snapshot with sp := s.cpu.sp - 2 }))) := by
  have hcpu : (afterPushLow v s).tick.cpu = { s.cpu with sp := s.cpu.sp - 2 } := by simp [afterPushLow]
  rw [pushWord_raised_high v h ha hb, raiseFault_of_cpu _ hcpu]
  rfl

theorem popWord_faulted (h : s.dmaSafe = true) (ha : s.supported s.cpu.sp = false) :
    popWord s = .raised (faultedAccess s.cpu.sp .read s) := by
  rw [popWord_raised h ha, raiseFault_of_cpu _ (tick_cpu s)]
  rfl

theorem popWord_faulted_high (h : s.dmaSafe = true) (ha : s.supported s.cpu.sp = true)
    (hb : s.supported (s.cpu.sp + 1) = false) :
    popWord s = .raised (s.tick.tick.setFault (some (.unsupportedAddress (s.cpu.sp + 1) .read s.cpu.snapshot))) := by
  rw [popWord_raised_high h ha hb, raiseFault_of_cpu (k := s.cpu) _ (by simp)]

/-- The forms that push `pc`. -/
def Calls (f : Form) (s : State) : Prop :=
  (∃ nn, f = .call nn) ∨ (∃ n, f = .rst n) ∨ (∃ cc nn, f = .callCC cc nn ∧ s.cpu.holds cc = true)

/-- The operation of such a form begins with that push (R245, R246, R250). -/
theorem execForm_calls {f : Form} (hf : Calls f s) :
    ∃ g : Unit → State → Flow Unit, execForm f s = ((pushWord s.cpu.pc s).bind g).outcome := by
  rcases hf with ⟨nn, rfl⟩ | ⟨n, rfl⟩ | ⟨cc, nn, rfl, hcc⟩
  · exact ⟨_, rfl⟩
  · exact ⟨_, rfl⟩
  · exact ⟨_, if_pos hcc⟩

/-- The forms that pop a word. -/
def Pops (f : Form) (s : State) : Prop :=
  (∃ qq, f = .pop qq) ∨ f = .ret ∨ f = .reti ∨ (∃ cc, f = .retCC cc ∧ s.cpu.holds cc = true)

/-- The operation of such a form begins with that pop (R157, R247, R248, R249). -/
theorem execForm_pops {f : Form} (hf : Pops f s) :
    ∃ g : Word → State → Flow Unit, execForm f s = ((popWord s).bind g).outcome := by
  rcases hf with ⟨qq, rfl⟩ | rfl | rfl | ⟨cc, rfl, hcc⟩
  · exact ⟨_, rfl⟩
  · exact ⟨_, rfl⟩
  · exact ⟨_, congrArg Flow.outcome (Flow.bind_assoc (popWord s) _ _)⟩
  · exact ⟨_, if_pos hcc⟩

theorem execForm_calls_raised {f : Form} {t : State} (hf : Calls f s) (h : pushWord s.cpu.pc s = .raised t) :
    execForm f s = .next t := by
  obtain ⟨g, e⟩ := execForm_calls hf
  rw [e, h]
  rfl

theorem execForm_pops_raised {f : Form} {t : State} (hf : Pops f s) (h : popWord s = .raised t) :
    execForm f s = .next t := by
  obtain ⟨g, e⟩ := execForm_pops hf
  rw [e, h]
  rfl

/-! The fetch (R104, R105). -/

/-- The state after a fetch that faults at byte `k` of the instruction: `pc` stands at that byte. -/
def faultedFetch (s : State) (k : Nat) : State :=
  ((s.ticks (k + 1)).setPc (s.cpu.pc + BitVec.ofNat 16 k)).setFault
    (some (.unsupportedAddress (s.cpu.pc + BitVec.ofNat 16 k) .read
      { s.cpu.snapshot with pc := s.cpu.pc + BitVec.ofNat 16 k }))

/-- The machine that has read `k` bytes from `pc` on. -/
def fetching (s : State) (k : Nat) : State := (s.ticks k).setPc (s.cpu.pc + BitVec.ofNat 16 k)

theorem fetching_zero (s : State) : fetching s 0 = s := by
  rw [fetching, BitVec.add_zero]
  rfl

theorem imm8_fetching (k : Nat) (h : s.dmaSafe = true) (ha : s.supported (s.cpu.pc + BitVec.ofNat 16 k) = true) :
    imm8 (fetching s k) = .done ((s.ticks (k + 1)).busByte (s.cpu.pc + BitVec.ofNat 16 k)) (fetching s (k + 1)) := by
  have hpc : s.cpu.pc + BitVec.ofNat 16 k + 1 = s.cpu.pc + BitVec.ofNat 16 (k + 1) := by
    rw [BitVec.add_assoc, BitVec.ofNat_add]
    rfl
  rw [fetching, imm8_ticks k h ha, hpc]
  rfl

theorem imm8_first (h : s.dmaSafe = true) (ha : s.supported s.cpu.pc = true) :
    imm8 s = .done ((s.ticks 1).busByte s.cpu.pc) (fetching s 1) := imm8_done h ha

theorem imm8_fetching_faulted (k : Nat) (h : s.dmaSafe = true)
    (ha : s.supported (s.cpu.pc + BitVec.ofNat 16 k) = false) : imm8 (fetching s k) = .raised (faultedFetch s k) := by
  have hcpu : ((s.ticks (k + 1)).setPc (s.cpu.pc + BitVec.ofNat 16 k)).cpu =
      { s.cpu with pc := s.cpu.pc + BitVec.ofNat 16 k } := by simp
  rw [fetching, imm8_ticks_raised k h ha, raiseFault_of_cpu _ hcpu]
  rfl

theorem instrLength_le (op : Byte) : instrLength op ≤ 3 := by
  rcases instrLength_cases op with e | ⟨e, _⟩ | ⟨e, _⟩ <;> omega

theorem instrLength_prefixByte : instrLength prefixByte = 2 := by decide

/-- A fetch ends at the first of its bytes whose address is unsupported (R292). -/
theorem fetch_faulted (k : Nat) (h : s.dmaSafe = true)
    (hk : k = 0 ∨ k < instrLength ((s.ticks 1).busByte s.cpu.pc))
    (hpre : ∀ j : Nat, j < k → s.supported (s.cpu.pc + BitVec.ofNat 16 j) = true)
    (ha : s.supported (s.cpu.pc + BitVec.ofNat 16 k) = false) : fetch s = .raised (faultedFetch s k) := by
  have hraise := imm8_fetching_faulted k h ha
  by_cases h0 : k = 0
  · subst h0
    rw [fetching_zero] at hraise
    rw [fetch, hraise, Flow.bind_raised]
  have hlen := hk.resolve_left h0
  have hpc : s.supported s.cpu.pc = true := BitVec.add_zero s.cpu.pc ▸ hpre 0 (by omega)
  rw [fetch, imm8_first h hpc, Flow.bind_done]
  generalize (s.ticks 1).busByte s.cpu.pc = op at hlen ⊢
  by_cases h1 : k = 1
  · subst h1
    split
    · exact Flow.bind_of_raised hraise _
    · have hle := instrLength_le op
      obtain hn | hn : instrLength op = 2 ∨ instrLength op = 3 := by omega
      · rw [hn]
        exact Flow.bind_of_raised hraise _
      · rw [hn]
        exact Flow.bind_of_raised hraise _
  · have hle := instrLength_le op
    obtain rfl : k = 2 := by omega
    have hop : op ≠ prefixByte := by
      rintro rfl
      exact absurd (instrLength_prefixByte ▸ hlen) (by decide)
    rw [if_neg hop, show instrLength op = 3 by omega, imm8_fetching 1 h (hpre 1 (by omega))]
    exact Flow.bind_of_raised hraise _

end

/-! The step (R270). -/

section
variable {s : State}

theorem not_asleep (hf : s.fault = none) (hs : s.cpu.stopped = false) : s.asleep = false := by
  rw [State.asleep, hf, hs]
  rfl

theorem commitEnable_requests (s : State) : (commitEnable s).requests = s.requests := by
  unfold commitEnable
  split <;> rfl

theorem commitEnable_halted (s : State) : (commitEnable s).cpu.halted = s.cpu.halted := by
  unfold commitEnable
  split <;> rfl

/-- Phase (c): a halted machine with an enabled request does not idle (R261). -/
theorem commitEnable_not_idles (h : s.cpu.halted = true → s.irq.ie &&& s.irq.if_ ≠ 0) :
    (commitEnable s).idles = false := by
  rw [State.idles, commitEnable_requests, commitEnable_halted]
  cases hh : s.cpu.halted
  · rfl
  · rw [Bool.true_and, beq_eq_false_iff_ne]
    exact h hh

/-- A step that services nothing and does not idle is over where its fetch raises (R293). -/
theorem step_of_fetch_raised {t : State} (hp : s.params.acceptable = true) (hf : s.fault = none)
    (hs : s.cpu.stopped = false) (hservice : s.cpu.ime = true → s.irq.ie &&& s.irq.if_ = 0)
    (hidle : s.cpu.halted = true → s.irq.ie &&& s.irq.if_ ≠ 0) (h : fetch (wake (commitEnable s)) = .raised t) :
    step s = .next t := by
  simp only [step, hp, not_asleep hf hs, pendingService_none hservice, commitEnable_not_idles hidle, h, Bool.false_eq_true,
    Bool.true_eq_false, if_false]

/-- A step that services a request is that service (R270 phase (a)). -/
theorem step_of_pendingService {t : State} {v : Word} (hp : s.params.acceptable = true) (hf : s.fault = none)
    (hs : s.cpu.stopped = false) (h : pendingService s = some (v, t)) : step s = (serviceInterrupt v t).outcome := by
  simp only [step, hp, not_asleep hf hs, h, Bool.false_eq_true, Bool.true_eq_false, if_false]

theorem requests_getLsbD (s : State) (n : Nat) :
    s.requests.getLsbD n = (s.irq.ie.getLsbD n && s.irq.if_.getLsbD n) := BitVec.getLsbD_and

/-- The sources stand in the order of their bits (R286). -/
theorem sources_bit : ∀ (n : Nat) (h : n < sources.length), sources[n].bit = n := by decide

/-- The source of the least bit that is enabled and pending is the one taken (R283, R286). -/
theorem requested_least {n : Nat} (hn : n < sources.length) (hie : s.irq.ie.getLsbD n = true)
    (hif : s.irq.if_.getLsbD n = true)
    (hleast : ∀ j : Nat, j < n → (s.irq.ie.getLsbD j && s.irq.if_.getLsbD j) = false) :
    s.requested = some sources[n] := by
  refine List.find?_eq_some_iff_getElem.mpr ⟨?_, n, hn, rfl, fun j hj => ?_⟩
  · rw [sources_bit n hn, requests_getLsbD, hie, hif]
    rfl
  · rw [sources_bit j (by omega), requests_getLsbD, hleast j hj]
    rfl

/-- What an acknowledge answers (R283, R284). -/
theorem ackInterrupt_least {n : Nat} (hn : n < sources.length) (hie : s.irq.ie.getLsbD n = true)
    (hif : s.irq.if_.getLsbD n = true)
    (hleast : ∀ j : Nat, j < n → (s.irq.ie.getLsbD j && s.irq.if_.getLsbD j) = false) :
    ackInterrupt s = some (BitVec.ofNat 16 (0x40 + 8 * n),
      s.setIrq { s.irq with if_ := s.irq.if_ &&& ~~~ (BitVec.twoPow 5 n) }) := by
  rw [ackInterrupt, requested_least hn hie hif hleast, Option.map_some, serviceAddress, resetInterrupt, Source.mask,
    sources_bit n hn, BitVec.ofNat_add, BitVec.ofNat_mul]
  rfl

theorem pendingService_enabled (h : s.cpu.ime = true) : pendingService s = ackInterrupt s := if_pos h

/-- The machine when service pushes `pc` (R285). -/
def servicing (s : State) : State := ((s.setIme false).setEiPending false).setHalted false

theorem serviceInterrupt_raised {t : State} (v : Word) (h : pushWord s.cpu.pc (servicing s) = .raised t) :
    (serviceInterrupt v s).outcome = .next t :=
  Flow.outcome_of_raised (Flow.bind_of_raised (x := pushWord s.cpu.pc (servicing s)) h _)

end

/-- Settles O28: the first access that raises is named form by form; what came before it is in the state the raise leaves. -/
theorem unsupportedAccessFaults : Obligations.UnsupportedAccessFaults := by
  intro i s h sp pushed snapshot calls pops
  have run {f : Form} {r : Result} (hf : i.form = f) (hr : execForm f s = r) : exec i s = r := (exec_of_form hf s).trans hr
  have hcalls : calls → Calls i.form s := id
  have hpops : pops → Pops i.form s := id
  refine ⟨fun ha => ⟨fun hf => run rfl (execForm_readsAtHL_faulted hf h ha),
      fun hf => run rfl (execForm_storesAtHL_faulted hf h ha)⟩,
    fun m ha => ⟨fun hf => run hf (loadA_faulted h ha), fun hf => run hf (storeA_faulted h ha)⟩,
    fun nn hf => ⟨fun ha => run hf (storeSP_faulted h ha), fun ha hb => run hf (storeSP_faulted_high h ha hb)⟩,
    ?_, fun ha hb => ⟨fun qq hf => ?_, fun hf => ?_⟩, fun ha hf => ?_, fun ha hb hf => ?_, fun hp hf hs => ⟨?_, ?_⟩⟩
  · rintro ha (⟨qq, hf⟩ | hf)
    · exact run hf (Flow.outcome_of_raised (pushWord_faulted _ h ha))
    · exact run rfl (execForm_calls_raised (hcalls hf) (pushWord_faulted _ h ha))
  · exact run hf (Flow.outcome_of_raised (pushWord_faulted_high _ h ha hb))
  · exact run rfl (execForm_calls_raised (hcalls hf) (pushWord_faulted_high _ h ha hb))
  · exact run rfl (execForm_pops_raised (hpops hf) (popWord_faulted h ha))
  · exact run rfl (execForm_pops_raised (hpops hf) (popWord_faulted_high h ha hb))
  · intro hservice hidle u k hk hpre ha
    refine step_of_fetch_raised hp hf hs hservice hidle ?_
    rw [wake_commitEnable]
    exact fetch_faulted (s := u) k h hk hpre ha
  · intro n hn hime hie hif hleast t
    have hstep := step_of_pendingService hp hf hs
      ((pendingService_enabled hime).trans (ackInterrupt_least hn hie hif hleast))
    refine ⟨fun ha => ?_, fun ha hb => ?_⟩ <;> rw [hstep] <;> apply serviceInterrupt_raised
    · exact pushWord_faulted _ h ha
    · exact pushWord_faulted_high _ h ha hb

end Sys2Proof.Machine
end

section
/-! PROOF. The frame of a tick (R61): of the pending bits it raises the first three only (R280), and of the other units' registers it
leaves those that software alone writes (R81). -/

namespace Sys2Proof.Machine

/-! The pending bits. -/

/-- `t` has the pending bits of `s` and perhaps those of `vblank`, `videoStat` and `timer`. -/
def RaisesClock (s t : State) : Prop :=
  ∃ m : BitVec 5, t.irq.if_ = s.irq.if_ ||| m ∧ m.getLsbD 3 = false ∧ m.getLsbD 4 = false

theorem RaisesClock.of_eq {s t : State} (h : t.irq.if_ = s.irq.if_) : RaisesClock s t :=
  ⟨0#5, by rw [h, BitVec.or_zero], rfl, rfl⟩

theorem RaisesClock.trans {s t u : State} (h : RaisesClock s t) (k : RaisesClock t u) : RaisesClock s u := by
  obtain ⟨m, hm, hm3, hm4⟩ := h
  obtain ⟨n, hn, hn3, hn4⟩ := k
  exact ⟨m ||| n, by rw [hn, hm, BitVec.or_assoc], by rw [BitVec.getLsbD_or, hm3, hn3]; rfl,
    by rw [BitVec.getLsbD_or, hm4, hn4]; rfl⟩

theorem RaisesClock.kept {s t : State} (h : RaisesClock s t) {n : Nat} (hn : s.irq.if_.getLsbD n = true) :
    t.irq.if_.getLsbD n = true := by
  obtain ⟨m, hm, _, _⟩ := h
  rw [hm, BitVec.getLsbD_or, hn, Bool.true_or]

theorem RaisesClock.serial {s t : State} (h : RaisesClock s t) : t.irq.if_.getLsbD 3 = s.irq.if_.getLsbD 3 := by
  obtain ⟨m, hm, hm3, _⟩ := h
  rw [hm, BitVec.getLsbD_or, hm3, Bool.or_false]

theorem RaisesClock.joypad {s t : State} (h : RaisesClock s t) : t.irq.if_.getLsbD 4 = s.irq.if_.getLsbD 4 := by
  obtain ⟨m, hm, _, hm4⟩ := h
  rw [hm, BitVec.getLsbD_or, hm4, Bool.or_false]

/-- The sources of the first three bits (R280). -/
theorem raiseInterrupt_raisesClock (i : Source) (hi : i.bit < 3) (s : State) : RaisesClock s (raiseInterrupt i s) := by
  have bits : i.mask.getLsbD 3 = false ∧ i.mask.getLsbD 4 = false := by
    cases i
    case serial => exact absurd hi (by decide)
    case joypad => exact absurd hi (by decide)
    all_goals decide
  exact ⟨i.mask, rfl, bits.1, bits.2⟩

theorem raiseIf_raisesClock (c : Bool) (i : Source) (hi : i.bit < 3) (s : State) : RaisesClock s (raiseIf c i s) := by
  unfold raiseIf
  split
  · exact raiseInterrupt_raisesClock i hi s
  · exact .of_eq rfl

/-! The video part of a tick. -/

/-- The PPU without what it writes itself: the comparison's flag, the mode, its counter and the line (R32, R33). -/
def Ppu.software (p : Ppu) : Ppu := { p with lycFlag := false, mode := .hblank, modeCtr := 0, ly := 0 }

theorem Ppu.software_inj {p q : Ppu} : p.software = q.software ↔
    p.lcdc = q.lcdc ∧ p.statEn = q.statEn ∧ p.lyc = q.lyc ∧ p.scy = q.scy ∧ p.scx = q.scx ∧ p.wy = q.wy ∧ p.wx = q.wx ∧
      p.bgp = q.bgp ∧ p.obp0 = q.obp0 ∧ p.obp1 = q.obp1 := by
  simp [Ppu.software]

/-- What the PPU leaves of the pending bits, of its own registers and of the timer. -/
structure VideoFrame (s t : State) : Prop where
  raises : RaisesClock s t
  ppu : t.ppu.software = s.ppu.software
  timer : t.timer = s.timer

theorem VideoFrame.of_eq {s t : State} (irq : t.irq = s.irq) (ppu : t.ppu.software = s.ppu.software)
    (timer : t.timer = s.timer) : VideoFrame s t :=
  ⟨.of_eq (congrArg Irq.if_ irq), ppu, timer⟩

theorem VideoFrame.trans {s t u : State} (h : VideoFrame s t) (k : VideoFrame t u) : VideoFrame s u :=
  ⟨h.raises.trans k.raises, k.ppu.trans h.ppu, k.timer.trans h.timer⟩

theorem raiseIf_videoFrame (c : Bool) (i : Source) (hi : i.bit < 3) (s : State) : VideoFrame s (raiseIf c i s) :=
  ⟨raiseIf_raisesClock c i hi s, by rw [raiseIf_ppu], raiseIf_timer c i s⟩

/-- A mode entry raises vblank and video-STAT at most (R357, R358). -/
theorem ppuEnter_videoFrame (m : PpuMode) (s : State) : VideoFrame s (ppuEnter m s) := by
  have entered : VideoFrame s (s.setPpu { s.ppu with mode := m, modeCtr := budget s.params m }) := .of_eq rfl rfl rfl
  exact (entered.trans (raiseIf_videoFrame _ .vblank (by decide) _)).trans
    (raiseIf_videoFrame _ .videoStat (by decide) _)

/-- A scanline advance raises video-STAT at most (R359). -/
theorem setScanline_videoFrame (y : Byte) (s : State) : VideoFrame s (setScanline y s) := by
  have compared : VideoFrame s (s.setPpu { s.ppu with ly := y, lycFlag := y == s.ppu.lyc }) := .of_eq rfl rfl rfl
  exact compared.trans (raiseIf_videoFrame _ .videoStat (by decide) _)

theorem renderLine_videoFrame (s : State) : VideoFrame s (renderLine s) := .of_eq rfl rfl rfl

theorem vsync_videoFrame (s : State) : VideoFrame s (vsync s) := .of_eq rfl rfl rfl

theorem reloadBudget_videoFrame (s : State) : VideoFrame s (reloadBudget s) := .of_eq rfl rfl rfl

theorem ppuCountDown_videoFrame (s : State) : VideoFrame s (ppuCountDown s) := .of_eq rfl rfl rfl

theorem ppuExpire_videoFrame (s : State) : VideoFrame s (ppuExpire s) := by
  cases hm : s.ppu.mode with
  | oamScan =>
    rw [ppuExpire_oamScan hm]
    exact ppuEnter_videoFrame _ s
  | transfer =>
    rw [ppuExpire_transfer hm]
    exact (renderLine_videoFrame s).trans (ppuEnter_videoFrame _ _)
  | hblank =>
    rw [ppuExpire_hblank hm]
    refine (setScanline_videoFrame (s.ppu.ly + 1) s).trans ?_
    split
    · exact ppuEnter_videoFrame _ _
    · exact (vsync_videoFrame _).trans (ppuEnter_videoFrame _ _)
  | vblank =>
    rw [ppuExpire_vblank hm]
    split
    · exact (setScanline_videoFrame _ s).trans (reloadBudget_videoFrame _)
    · exact (setScanline_videoFrame _ s).trans (ppuEnter_videoFrame _ _)

theorem ppuTick_videoFrame (s : State) : VideoFrame s (ppuTick s) := by
  rcases ppuTick_cases s with ⟨_, e⟩ | ⟨_, _, e⟩ | ⟨_, _, e⟩ <;> rw [e]
  · exact .of_eq rfl rfl rfl
  · exact ppuCountDown_videoFrame s
  · exact (ppuCountDown_videoFrame s).trans (ppuExpire_videoFrame _)

/-! The timer's part. -/

/-- Everything `TimerTick` can do (R311): the count alone, a step of `tima`, or its reload with the timer's interrupt. -/
theorem timerTick_cases (s : State) :
    timerTick s = s.setTimer s.timer.count ∨
    timerTick s = s.setTimer { s.timer.count with tima := s.timer.tima + 1 } ∨
    timerTick s = raiseInterrupt .timer (s.setTimer { s.timer.count with tima := s.timer.tma }) := by
  have key : timerTick s =
      if s.timer.count.due then
        if s.timer.tima = 0xFF then raiseInterrupt .timer (s.setTimer { s.timer.count with tima := s.timer.tma })
        else s.setTimer { s.timer.count with tima := s.timer.tima + 1 }
      else s.setTimer s.timer.count := rfl
  rw [key]
  split
  · split
    · exact .inr (.inr rfl)
    · exact .inr (.inl rfl)
  · exact .inl rfl

theorem timerTick_raisesClock (s : State) : RaisesClock s (timerTick s) := by
  rcases timerTick_cases s with e | e | e <;> rw [e]
  · exact .of_eq rfl
  · exact .of_eq rfl
  · exact (RaisesClock.of_eq rfl).trans (raiseInterrupt_raisesClock .timer (by decide) _)

/-- The timer without what it counts (R30). -/
def Timer.software (t : Timer) : Timer := { t with counter := 0, tima := 0 }

theorem Timer.software_inj {t u : Timer} : t.software = u.software ↔ t.tma = u.tma ∧ t.tac = u.tac := by
  simp [Timer.software]

theorem timerTick_software (s : State) : (timerTick s).timer.software = s.timer.software := by
  rcases timerTick_cases s with e | e | e <;> rw [e] <;> rfl

theorem tick_raisesClock (s : State) : RaisesClock s s.tick := by
  have hdma : RaisesClock s (dmaTick s).state := .of_eq (congrArg Irq.if_ (dmaTick_dmaOnly s).irq)
  rcases tick_eq s with e | e <;> rw [e]
  · exact hdma
  · exact hdma.trans ((ppuTick_videoFrame _).raises.trans (timerTick_raisesClock _))

/-- Settles O58: the units of a tick write none of the first, and raise only their own three sources. -/
theorem tickFrame : Obligations.TickFrame := by
  intro s
  have h := tick_raisesClock s
  exact ⟨tick_ie s, fun _ _ => h.kept, h.serial, h.joypad, tick_cpu s, tick_serial s, tick_joypad s, tick_bootActive s,
    tick_params s⟩

/-! What software alone writes. -/

/-- `t` has the values of `s` in every part outside the CPU that only a store, a button or reset writes (R81). -/
structure KeepsSoftware (s t : State) : Prop where
  ie : t.irq.ie = s.irq.ie
  timer : t.timer.software = s.timer.software
  dmaSrc : t.dma.src = s.dma.src
  ppu : t.ppu.software = s.ppu.software
  joypad : t.joypad = s.joypad
  serial : t.serial = s.serial
  bootActive : t.bootActive = s.bootActive
  cart : t.cart = s.cart
  params : t.params = s.params

theorem KeepsSoftware.trans {s t u : State} (h : KeepsSoftware s t) (k : KeepsSoftware t u) : KeepsSoftware s u :=
  ⟨k.ie.trans h.ie, k.timer.trans h.timer, k.dmaSrc.trans h.dmaSrc, k.ppu.trans h.ppu, k.joypad.trans h.joypad,
    k.serial.trans h.serial, k.bootActive.trans h.bootActive, k.cart.trans h.cart, k.params.trans h.params⟩

theorem tick_keepsSoftware (s : State) : KeepsSoftware s s.tick := by
  have timer : s.tick.timer.software = s.timer.software := by
    rw [← (dmaTick_dmaOnly s).timer]
    rcases tick_eq s with e | e <;> rw [e]
    rw [timerTick_software, (ppuTick_videoFrame _).timer]
  have ppu : s.tick.ppu.software = s.ppu.software := by
    rw [← (dmaTick_dmaOnly s).ppu]
    rcases tick_eq s with e | e <;> rw [e]
    rw [timerTick_ppu, (ppuTick_videoFrame _).ppu]
  exact ⟨tick_ie s, timer, tick_dmaSrc s, ppu, tick_joypad s, tick_serial s, tick_bootActive s, tick_cart s, tick_params s⟩

/-- What is within reach without a write. -/
theorem reach_keepsSoftware {W : Word → Prop} {s t : State} (r : Reach W s t) (hW : ∀ a, ¬ W a) : KeepsSoftware s t := by
  induction r with
  | refl => exact ⟨rfl, rfl, rfl, rfl, rfl, rfl, rfl, rfl, rfl⟩
  | cpu k _ ih => exact ih.trans ⟨rfl, rfl, rfl, rfl, rfl, rfl, rfl, rfl, rfl⟩
  | tick _ ih => exact ih.trans (tick_keepsSoftware _)
  | write a v ha _ _ => exact absurd ha (hW a)
  | ack i _ ih => exact ih.trans ⟨rfl, rfl, rfl, rfl, rfl, rfl, rfl, rfl, rfl⟩
  | fault f _ ih => exact ih.trans ⟨rfl, rfl, rfl, rfl, rfl, rfl, rfl, rfl, rfl⟩

/-! Instructions without a data access. -/

/-- The peripherals, with memory and the sink, are as they were. -/
def KeepsPeripherals (s t : State) : Prop :=
  t.irq = s.irq ∧ t.timer = s.timer ∧ t.dma = s.dma ∧ t.ppu = s.ppu ∧ t.mem = s.mem ∧ t.sink = s.sink

/-- An instruction without a data access changes the CPU only, unless it raises, and a raise latches the fault only. -/
theorem exec_noAccess {i : Instr} {s t : State} (h : exec i s = .next t) (hd : dataAccesses (effectForm i) s = 0) :
    KeepsPeripherals s t ∧
      ((∀ op, effectForm i ≠ .undefined op) → (∀ n, effectForm i ≠ .stop n) → t.fault = s.fault) := by
  rw [exec_eq_effectForm] at h
  have hprefix := effectForm_ne_prefix i
  generalize effectForm i = f at h hd hprefix ⊢
  by_cases hu : ∃ op, f = .undefined op
  · obtain ⟨op, rfl⟩ := hu
    injection h with h
    subst h
    exact ⟨⟨rfl, rfl, rfl, rfl, rfl, rfl⟩, fun hne => absurd rfl (hne op)⟩
  by_cases hs : ∃ n, f = .stop n
  · obtain ⟨n, rfl⟩ := hs
    refine ⟨?_, fun _ hne => absurd rfl (hne n)⟩
    rw [execForm, stopCpu] at h
    split at h <;> injection h with h <;> subst h <;> exact ⟨rfl, rfl, rfl, rfl, rfl, rfl⟩
  obtain ⟨k, hk⟩ := execForm_noAccess f s hd (fun op e => hu ⟨op, e⟩) (fun n e => hs ⟨n, e⟩) hprefix
  rw [hk] at h
  injection h with h
  subst h
  exact ⟨⟨rfl, rfl, rfl, rfl, rfl, rfl⟩, fun _ _ => rfl⟩

/-- Settles O32: with nothing to store to, what is within reach keeps what software alone writes; with no access, all but the CPU. -/
theorem nonStoringFrame : Obligations.NonStoringFrame := by
  intro i s t hexec hstores
  have h := reach_keepsSoftware (exec_reach hexec) fun a => hstores ▸ List.not_mem_nil
  obtain ⟨tma, tac⟩ := Timer.software_inj.mp h.timer
  obtain ⟨lcdc, statEn, lyc, scy, scx, wy, wx, bgp, obp0, obp1⟩ := Ppu.software_inj.mp h.ppu
  refine ⟨h.ie, tma, tac, h.dmaSrc, lcdc, statEn, lyc, scy, scx, wy, wx, bgp, obp0, obp1, h.joypad, h.serial, h.bootActive,
    h.cart, h.params, fun hd => ?_⟩
  obtain ⟨⟨irq, timer, dma, ppu, mem, sink⟩, fault⟩ := exec_noAccess hexec hd
  exact ⟨irq, timer, dma, ppu, mem, sink, fault⟩

end Sys2Proof.Machine
end

section
/-! PROOF. The bus by address (R62 to R77): the accesses as ticks and dispatches, the row of R66 and R67 an address falls in, and the
addresses that hold nothing. -/

namespace Sys2Proof.Machine

/-- Settles O34: the four accesses, each by its law. -/
theorem busAccesses : Obligations.BusAccesses := fun _ _ h ha =>
  ⟨readByte_done h ha, fun v => writeByte_done v h ha,
    fun hb => ⟨readWord_done h ha hb, fun v hm => writeWord_done v h ha hb hm⟩⟩

/-! The row of an address. -/

section
variable {s : State} {a : Word}

theorem overlaid_of_le (h : 0x100 ≤ a.toNat) : s.overlaid a = false := by
  rw [State.overlaid, decide_eq_false (by omega), Bool.and_false]

theorem busByte_overlaid (ha : a.toNat < 0x100) (hb : s.bootActive = true) : s.busByte a = bootByte s a := by
  rw [State.busByte, State.overlaid, hb, decide_eq_true ha]
  rfl

theorem busByte_bank0 (h : s.overlaid a = false) (hr : regionOf a = .bank0) : s.busByte a = s.mem.read a := by
  simp only [State.busByte, h, hr, Bool.false_eq_true, if_false]

theorem busByte_bank1 (h : s.overlaid a = false) (hr : regionOf a = .bank1) : s.busByte a = cartReadBank1 s a := by
  simp only [State.busByte, h, hr, Bool.false_eq_true, if_false]

theorem busByte_cartRam (h : s.overlaid a = false) (hr : regionOf a = .cartRam) : s.busByte a = cartReadRam s a := by
  simp only [State.busByte, h, hr, Bool.false_eq_true, if_false]

theorem busByte_oam (h : s.overlaid a = false) (hr : regionOf a = .oam) :
    s.busByte a = if s.dma.active = true then 0xFF else s.mem.read a := by
  simp only [State.busByte, h, hr, Bool.false_eq_true, if_false]

theorem busByte_unsupported (h : s.overlaid a = false) (hr : regionOf a = .unsupported) : s.busByte a = 0xFF := by
  simp only [State.busByte, h, hr, Bool.false_eq_true, if_false]

/-- The RAMs that are always open to the CPU (R70, R72, R77). -/
theorem busByte_ram (h : s.overlaid a = false) (hr : regionOf a = .vram ∨ regionOf a = .wram ∨ regionOf a = .hram) :
    s.busByte a = s.mem.read a := by
  rcases hr with hr | hr | hr <;> simp only [State.busByte, h, hr, Bool.false_eq_true, if_false]

theorem cartReadBank1_romOnly (h : s.params.cart = .romOnly) : cartReadBank1 s a = s.mem.read a := by
  rw [cartReadBank1, h]

/-- Cartridge RAM that is not there or not enabled (R83, R84). -/
theorem cartReadRam_closed (h : s.params.cart = .romOnly ∨ s.cart.ramEnabled = false) : cartReadRam s a = 0xFF := by
  unfold cartReadRam
  split
  · rfl
  · next hv =>
    have hoff := h.resolve_left (by rw [hv]; exact CartVariant.noConfusion)
    rw [hoff]
    rfl

end

/-- Settles O35: each range is a row of R66. -/
theorem readDispatch : Obligations.ReadDispatch := by
  intro s a
  refine ⟨busByte_overlaid, fun ha hb => ?_, fun ha hb hc => ?_, fun ha hb => ?_, fun ha hb hc => ?_, fun ha hb => ?_,
    fun ha hb => ?_, fun ha hb => ?_⟩
  · refine busByte_bank0 (hb.elim overlaid_of_le fun hoff => ?_) ((regionOf_bank0 a).mpr ha)
    rw [State.overlaid, hoff, Bool.false_and]
  · rw [busByte_bank1 (overlaid_of_le (by omega)) ((regionOf_bank1 a).mpr ⟨ha, hb⟩), cartReadBank1_romOnly hc]
  · exact busByte_ram (overlaid_of_le (by omega)) (.inl ((regionOf_vram a).mpr ⟨ha, hb⟩))
  · rw [busByte_cartRam (overlaid_of_le (by omega)) ((regionOf_cartRam a).mpr ⟨ha, hb⟩), cartReadRam_closed hc]
  · exact busByte_ram (overlaid_of_le (by omega)) (.inr (.inl ((regionOf_wram a).mpr ⟨ha, hb⟩)))
  · exact busByte_oam (overlaid_of_le (by omega)) ((regionOf_oam a).mpr ⟨ha, hb⟩)
  · exact busByte_ram (overlaid_of_le (by omega)) (.inr (.inr ((regionOf_hram a).mpr ⟨ha, hb⟩)))

section
variable {s : State} {a : Word} (v : Byte)

theorem busWrite_rom (h : regionOf a = .bank0 ∨ regionOf a = .bank1) : s.busWrite a v = cartWriteControl s a v := by
  rcases h with h | h <;> rw [State.busWrite, h]

theorem busWrite_ram (h : regionOf a = .vram ∨ regionOf a = .wram ∨ regionOf a = .hram) :
    s.busWrite a v = s.setMem (s.mem.write a v) := by
  rcases h with h | h | h <;> rw [State.busWrite, h]

theorem busWrite_cartRam (h : regionOf a = .cartRam) : s.busWrite a v = cartWriteRam s a v := by rw [State.busWrite, h]

theorem busWrite_oam (h : regionOf a = .oam) :
    s.busWrite a v = if s.dma.active = true then s else s.setMem (s.mem.write a v) := by rw [State.busWrite, h]

theorem busWrite_unsupported (h : regionOf a = .unsupported) : s.busWrite a v = s := by rw [State.busWrite, h]

theorem cartWriteControl_romOnly (h : s.params.cart = .romOnly) : cartWriteControl s a v = s := by rw [cartWriteControl, h]

/-- Cartridge RAM that is not there or not enabled (R83, R84). -/
theorem cartWriteRam_closed (h : s.params.cart = .romOnly ∨ s.cart.ramEnabled = false) : cartWriteRam s a v = s := by
  unfold cartWriteRam
  split
  · rfl
  · next hv =>
    have hoff := h.resolve_left (by rw [hv]; exact CartVariant.noConfusion)
    rw [hoff]
    rfl

end

/-- Settles O36: each range is a row of R67. -/
theorem writeDispatch : Obligations.WriteDispatch := by
  intro s a v
  refine ⟨fun ha hc => ?_, fun ha hb => ?_, fun ha hb hc => ?_, fun ha hb => ?_, fun ha hb => ?_, fun ha hb => ?_⟩
  · have hrom : regionOf a = .bank0 ∨ regionOf a = .bank1 := by
      rw [regionOf_bank0, regionOf_bank1]
      omega
    rw [busWrite_rom v hrom, cartWriteControl_romOnly v hc]
  · exact busWrite_ram v (.inl ((regionOf_vram a).mpr ⟨ha, hb⟩))
  · rw [busWrite_cartRam v ((regionOf_cartRam a).mpr ⟨ha, hb⟩), cartWriteRam_closed v hc]
  · exact busWrite_ram v (.inr (.inl ((regionOf_wram a).mpr ⟨ha, hb⟩)))
  · exact busWrite_oam v ((regionOf_oam a).mpr ⟨ha, hb⟩)
  · exact busWrite_ram v (.inr (.inr ((regionOf_hram a).mpr ⟨ha, hb⟩)))

/-! The addresses that hold nothing. -/

theorem supported_eq_false_iff (s : State) (a : Word) :
    s.supported a = false ↔ s.params.unmappedPolicy = .fault ∧ regionOf a = .unsupported := by
  rw [State.supported, Bool.or_eq_false_iff, bne_eq_false_iff_eq, beq_eq_false_iff_ne]
  cases s.params.unmappedPolicy <;> simp

/-- An I/O-page address that is in no row of R41 (R75). -/
theorem busByte_no_register {s : State} {a : Word} (hr : regionOf a = .io) (h : ioRegAt a = none) : s.busByte a = 0xFF := by
  simp only [State.busByte, overlaid_of_io s hr, hr, ioRead, h, Bool.false_eq_true, if_false]

theorem busWrite_no_register {s : State} {a : Word} (v : Byte) (hr : regionOf a = .io) (h : ioRegAt a = none) :
    s.busWrite a v = s := by
  simp only [State.busWrite, hr, ioWrite, h]

/-- The ranges of the I/O page that hold no register (R75). -/
def InIoHole (n : Nat) : Prop :=
  n = 0xFF03 ∨ (0xFF08 ≤ n ∧ n ≤ 0xFF0E) ∨ (0xFF10 ≤ n ∧ n ≤ 0xFF3F) ∨ (0xFF4C ≤ n ∧ n ≤ 0xFF4F) ∨ (0xFF51 ≤ n ∧ n ≤ 0xFF7F)

theorem ioRegAt_hole {a : Word} (h : InIoHole a.toNat) : ioRegAt a = none := by
  have table : ∀ p ∈ ioTable, ¬ InIoHole p.1.toNat := by
    unfold InIoHole
    decide
  refine List.lookup_eq_none_iff.mpr fun p hp => ?_
  rw [bne_iff_ne]
  rintro rfl
  exact table p hp h

theorem regionOf_hole {a : Word} (h : InIoHole a.toNat) : regionOf a = .io := by
  unfold InIoHole at h
  rw [regionOf_io]
  omega

/-- Settles O37: the unsupported region, and the I/O addresses outside the table of R41. -/
theorem holesInTheMap : Obligations.HolesInTheMap := by
  intro s a v
  refine ⟨?_, fun ha _ => ?_, fun ha => ?_⟩
  · rw [supported_eq_false_iff, regionOf_unsupported]
  · have hr := (regionOf_unsupported a).mpr ha
    exact ⟨busByte_unsupported (overlaid_of_le (by omega)) hr, busWrite_unsupported v hr⟩
  · have hr := regionOf_hole ha
    exact ⟨busByte_no_register hr (ioRegAt_hole ha), busWrite_no_register v hr (ioRegAt_hole ha)⟩

end Sys2Proof.Machine
end

section
/-! PROOF. The encoding (R100 to R112): what the decoder reads is an entry of the opcode maps, and the bytes of an entry are the
encoding of its instruction; every instruction stands in the maps at its own encoding. -/

namespace Sys2Proof.Machine

/-! What the decoder can answer. -/

/-- The bytes of an entry of the maps R111 and R112, as many as the length table gives its opcode (R108), and its instruction. -/
inductive MapEntry : List Byte → Instr → Prop where
  | extended (op2 : Byte) : MapEntry [prefixByte, op2] (decodeExtended op2)
  | one {op : Byte} (hp : op ≠ prefixByte) (hl : instrLength op = 1) : MapEntry [op] (decodeStandard op 0 0)
  | two {op : Byte} (b1 : Byte) (hp : op ≠ prefixByte) (hl : instrLength op = 2) :
      MapEntry [op, b1] (decodeStandard op b1 0)
  | three {op : Byte} (b1 b2 : Byte) (hp : op ≠ prefixByte) (hl : instrLength op = 3) :
      MapEntry [op, b1, b2] (decodeStandard op b1 b2)

theorem decode_of_mapEntry {front : List Byte} {i : Instr} (h : MapEntry front i) (rest : List Byte) :
    decode (front ++ rest) = .ok (i, rest) := by
  cases h with
  | extended op2 => rfl
  | one hp hl => simp [decode, hp, hl]
  | two b1 hp hl => simp [decode, hp, hl]
  | three b1 b2 hp hl => simp [decode, hp, hl]

theorem mapEntry_of_decode {bytes rest : List Byte} {i : Instr} (h : decode bytes = .ok (i, rest)) :
    ∃ front, MapEntry front i ∧ front ++ rest = bytes := by
  unfold decode at h
  split at h
  · cases h
  · next op tail =>
    split at h
    · next hp =>
      subst hp
      split at h
      · cases h
        exact ⟨_, .extended _, rfl⟩
      · cases h
    · next hp =>
      split at h
      · next hl =>
        cases h
        exact ⟨_, .one hp hl, rfl⟩
      · next hl =>
        cases h
        exact ⟨_, .two _ hp hl, rfl⟩
      · next hl =>
        cases h
        exact ⟨_, .three _ _ hp hl, rfl⟩
      · cases h

/-- The encoder's patterns (R103) give an entry's bytes back, and no entry is the row `PREFIX CB` (log 11). -/
theorem MapEntry.encodes {front : List Byte} {i : Instr} (h : MapEntry front i) : encode i = front ∧ i.wellFormed = true := by
  cases h with
  | extended op2 => exact encode_decodeExtended op2
  | @one op hp hl => exact encode_length_one op hl hp
  | @two op b1 hp hl =>
    rcases instrLength_cases op with h1 | ⟨_, hpre | hmem⟩ | ⟨h3, _⟩
    · omega
    · exact absurd hpre hp
    · exact encode_length_two hmem b1
    · omega
  | @three op b1 b2 hp hl =>
    rcases instrLength_cases op with h1 | ⟨h2, _⟩ | ⟨_, _, hmem⟩
    · omega
    · omega
    · exact encode_length_three hmem b1 b2

/-- The maps have an entry for every opcode, and the length table its length. -/
theorem exists_mapEntry (b0 b1 b2 : Byte) (rest : List Byte) :
    ∃ i, MapEntry ((b0 :: b1 :: b2 :: rest).take (instrLength b0)) i := by
  by_cases hp : b0 = prefixByte
  · subst hp
    exact ⟨_, .extended b1⟩
  rcases instrLength_cases b0 with hl | ⟨hl, _⟩ | ⟨hl, _⟩ <;> rw [hl]
  · exact ⟨_, .one hp hl⟩
  · exact ⟨_, .two b1 hp hl⟩
  · exact ⟨_, .three b1 b2 hp hl⟩

theorem instrLength_pos (op : Byte) : 1 ≤ instrLength op := by
  rcases instrLength_cases op with e | ⟨e, _⟩ | ⟨e, _⟩ <;> omega

/-! The statements. -/

/-- Settles O2: what decodes is an entry of the maps, and the bytes of an entry are its instruction's encoding. -/
theorem encodeInvertsDecode : Obligations.EncodeInvertsDecode := by
  intro bytes rest i h
  obtain ⟨front, entry, rfl⟩ := mapEntry_of_decode h
  obtain ⟨henc, hwf⟩ := entry.encodes
  exact ⟨hwf, by rw [henc]⟩

/-- Settles O3: the first bytes, as many as the length table says, are an entry of the maps. -/
theorem everyOpcodeDecodes : Obligations.EveryOpcodeDecodes := by
  intro b0 b1 b2 rest
  have hle := instrLength_le b0
  obtain ⟨i, entry⟩ := exists_mapEntry b0 b1 b2 rest
  have hdec := decode_of_mapEntry entry ((b0 :: b1 :: b2 :: rest).drop (instrLength b0))
  rw [List.take_append_drop] at hdec
  obtain ⟨henc, _⟩ := entry.encodes
  refine ⟨i, hdec, ?_, instrLength_pos b0, hle⟩
  rw [henc, List.length_take_of_le]
  exact Nat.le_trans hle (by simp)

/-- Settles O1, row by row: each encoding is in the maps at its own row's entry; the two bytes of a word immediate make that word
again. -/
theorem decodeInvertsEncode : Obligations.DecodeInvertsEncode := by
  intro i rest h
  cases i
  case prefix_CB => cases h
  case ld_BC_nn nn | ld_DE_nn nn | ld_HL_nn nn | ld_SP_nn nn | ld_atNn_SP nn | ld_atNn_A nn | ld_A_atNn nn
      | jp_nn nn | jp_NZ_nn nn | jp_Z_nn nn | jp_NC_nn nn | jp_C_nn nn
      | call_nn nn | call_NZ_nn nn | call_Z_nn nn | call_NC_nn nn | call_C_nn nn =>
    exact congrArg (fun j => Except.ok (j, rest)) (congrArg _ (word_hi_lo nn))
  all_goals rfl

/-! Jumps. -/

/-- The target of a relative jump over the integers (R106, R243). -/
theorem add_sext (w : Word) (e : Byte) : w + sext e = BitVec.ofInt 16 (w.toNat + e.toInt) :=
  congrArg Prod.fst (spPlusE_eq w e)

theorem jumpIf_eq (cc : Cond) (nn : Word) (s : State) :
    jumpIf cc nn s = .next (if s.cpu.holds cc = true then s.setPc nn else s) := by
  unfold jumpIf
  split <;> rfl

theorem jumpRel_eq (e : Byte) (s : State) :
    jumpRel e s = .next (s.setPc (BitVec.ofInt 16 (s.cpu.pc.toNat + e.toInt))) := by
  rw [jumpRel, add_sext]

theorem jumpRelIf_eq (cc : Cond) (e : Byte) (s : State) :
    jumpRelIf cc e s =
      .next (if s.cpu.holds cc = true then s.setPc (BitVec.ofInt 16 (s.cpu.pc.toNat + e.toInt)) else s) := by
  unfold jumpRelIf
  split
  · exact jumpRel_eq e s
  · rfl

theorem encode_of_form {i : Instr} {f : Form} (h : i.form = f) : encode i = encodeForm f := congrArg encodeForm h

theorem encodeForm_jpCC (cc : Cond) (nn : Word) :
    encodeForm (.jpCC cc nn) = [0b110#3 ++ cc.code ++ 0b010#3, lo nn, hi nn] := by
  cases cc <;> rfl

theorem encodeForm_jrCC (cc : Cond) (e : Byte) : encodeForm (.jrCC cc e) = [0b001#3 ++ cc.code ++ 0b000#3, e] := by
  cases cc <;> rfl

/-- Settles O22: each form's bytes and the operation it runs. -/
theorem jumps : Obligations.Jumps := fun _ s =>
  ⟨fun _ h => ⟨encode_of_form h, exec_of_form h s⟩,
    fun cc nn h => ⟨(encode_of_form h).trans (encodeForm_jpCC cc nn), (exec_of_form h s).trans (jumpIf_eq cc nn s)⟩,
    fun h => ⟨encode_of_form h, exec_of_form h s⟩,
    fun e h => ⟨encode_of_form h, (exec_of_form h s).trans (jumpRel_eq e s)⟩,
    fun cc e h => ⟨(encode_of_form h).trans (encodeForm_jrCC cc e), (exec_of_form h s).trans (jumpRelIf_eq cc e s)⟩,
    rfl, rfl, rfl, rfl⟩

end Sys2Proof.Machine
end

section
/-! PROOF. The 8-bit loads (40_load8.md): what each shared operation answers where its access raises no fault, then form by form. -/

namespace Sys2Proof.Machine

/-! The accesses at `HL` (R133 to R135). -/

section
variable {s : State} (h : s.dmaSafe = true)
include h

theorem load8_atHL_done (r : Reg8) (ha : s.supported (s.pair .hl) = true) :
    load8 (.reg r) .atHL s = .next (s.tick.setReg r (s.tick.busByte (s.pair .hl))) := by
  rw [load8, readR8, readByte_done h ha]
  rfl

theorem loadImm8_atHL_done (n : Byte) (ha : s.supported (s.pair .hl) = true) :
    loadImm8 .atHL n s = .next (s.tick.busWrite (s.pair .hl) n) := by
  rw [loadImm8, writeR8, writeByte_done n h ha]
  rfl

/-- A register stored at `HL` is the store of its value: reading it makes no access. -/
theorem load8_toHL_done (r : Reg8) (ha : s.supported (s.pair .hl) = true) :
    load8 .atHL (.reg r) s = .next (s.tick.busWrite (s.pair .hl) (s.reg r)) :=
  loadImm8_atHL_done h (s.reg r) ha

/-! The accesses of `A` (R130). -/

theorem loadA_done {m : AccMem} (ha : s.supported (accAddress m s) = true) :
    loadA m s = .next (accUpdate m (s.tick.setReg .a (s.tick.busByte (accAddress m s)))) := by
  rw [loadA, readByte_done h ha]
  rfl

theorem storeA_done {m : AccMem} (ha : s.supported (accAddress m s) = true) :
    storeA m s = .next (accUpdate m (s.tick.busWrite (accAddress m s) (s.reg .a))) := by
  rw [storeA, writeByte_done _ h ha]
  rfl

/-- Neither the tick nor the load of `A` moves `HL`: it steps from its value before the instruction (R147, R149). -/
theorem loadA_hlInc_done (ha : s.supported (s.pair .hl) = true) :
    loadA .hlInc s =
      .next ((s.tick.setReg .a (s.tick.busByte (s.pair .hl))).setPair .hl (s.pair .hl + 1)) := by
  rw [loadA_done (m := .hlInc) h ha, accUpdate, accAddress, setReg_a_pair, tick_pair]

theorem loadA_hlDec_done (ha : s.supported (s.pair .hl) = true) :
    loadA .hlDec s =
      .next ((s.tick.setReg .a (s.tick.busByte (s.pair .hl))).setPair .hl (s.pair .hl - 1)) := by
  rw [loadA_done (m := .hlDec) h ha, accUpdate, accAddress, setReg_a_pair, tick_pair]

/-- Neither the tick nor the write moves `HL` (R146, R148). -/
theorem storeA_hlInc_done (ha : s.supported (s.pair .hl) = true) :
    storeA .hlInc s = .next ((s.tick.busWrite (s.pair .hl) (s.reg .a)).setPair .hl (s.pair .hl + 1)) := by
  rw [storeA_done (m := .hlInc) h ha, accUpdate, accAddress, busWrite_pair, tick_pair]

theorem storeA_hlDec_done (ha : s.supported (s.pair .hl) = true) :
    storeA .hlDec s = .next ((s.tick.busWrite (s.pair .hl) (s.reg .a)).setPair .hl (s.pair .hl - 1)) := by
  rw [storeA_done (m := .hlDec) h ha, accUpdate, accAddress, busWrite_pair, tick_pair]

end

/-- The bytes of `LD (HL),r`, with the code of `(HL)` for the destination (R102, R134). -/
theorem encodeForm_ld_atHL (r : Reg8) : encodeForm (.ld .atHL (.reg r)) = [0b01110#5 ++ r.code] := by
  cases r <;> rfl

/-- Settles O5: no access is made, so each form's bytes and operation are as its rule prints them. -/
theorem registerLoads : Obligations.RegisterLoads := fun _ s =>
  ⟨fun _ _ hf => ⟨encode_of_form hf, exec_of_form hf s⟩, fun _ _ hf => ⟨encode_of_form hf, exec_of_form hf s⟩⟩

/-- Settles O6: each form's bytes and the load it runs; an address in the I/O page is supported. -/
theorem loadsFromMemory : Obligations.LoadsFromMemory := fun _ s h =>
  ⟨fun r hf ha => ⟨encode_of_form hf, (exec_of_form hf s).trans (load8_atHL_done h r ha)⟩,
    fun hf ha => ⟨encode_of_form hf, (exec_of_form hf s).trans (loadA_done h ha)⟩,
    fun hf ha => ⟨encode_of_form hf, (exec_of_form hf s).trans (loadA_done h ha)⟩,
    fun _ hf ha => ⟨encode_of_form hf, (exec_of_form hf s).trans (loadA_done h ha)⟩,
    fun hf => ⟨encode_of_form hf, (exec_of_form hf s).trans (loadA_done h (supported_ioOffset s (s.reg .c)))⟩,
    fun n hf => ⟨encode_of_form hf, (exec_of_form hf s).trans (loadA_done h (supported_ioOffset s n))⟩,
    fun hf ha => ⟨encode_of_form hf, (exec_of_form hf s).trans (loadA_hlInc_done h ha)⟩,
    fun hf ha => ⟨encode_of_form hf, (exec_of_form hf s).trans (loadA_hlDec_done h ha)⟩⟩

/-- Settles O7: each form's bytes and the store it runs; an address in the I/O page is supported. -/
theorem storesToMemory : Obligations.StoresToMemory := fun _ s h =>
  ⟨fun r hf ha =>
      ⟨(encode_of_form hf).trans (encodeForm_ld_atHL r), (exec_of_form hf s).trans (load8_toHL_done h r ha)⟩,
    fun n hf ha => ⟨encode_of_form hf, (exec_of_form hf s).trans (loadImm8_atHL_done h n ha)⟩,
    fun hf ha => ⟨encode_of_form hf, (exec_of_form hf s).trans (storeA_done h ha)⟩,
    fun hf ha => ⟨encode_of_form hf, (exec_of_form hf s).trans (storeA_done h ha)⟩,
    fun _ hf ha => ⟨encode_of_form hf, (exec_of_form hf s).trans (storeA_done h ha)⟩,
    fun hf => ⟨encode_of_form hf, (exec_of_form hf s).trans (storeA_done h (supported_ioOffset s (s.reg .c)))⟩,
    fun n hf => ⟨encode_of_form hf, (exec_of_form hf s).trans (storeA_done h (supported_ioOffset s n))⟩,
    fun hf ha => ⟨encode_of_form hf, (exec_of_form hf s).trans (storeA_hlInc_done h ha)⟩,
    fun hf ha => ⟨encode_of_form hf, (exec_of_form hf s).trans (storeA_hlDec_done h ha)⟩⟩

end Sys2Proof.Machine
end

section
/-! PROOF. The 16-bit loads and the stack (41_load16_stack.md): the bytes of a pair, what each shared operation answers where its
accesses raise no fault, then form by form. -/

namespace Sys2Proof.Machine

/-! The encodings with a pair in the opcode (R102), and `AF` as a word (R24). -/

theorem encodeForm_ldPair (rr : Pair) (nn : Word) :
    encodeForm (.ldPair rr nn) = [0b00#2 ++ rr.code ++ 0b0001#4, lo nn, hi nn] := by
  cases rr <;> rfl

theorem encodeForm_push (qq : StackPair) : encodeForm (.push qq) = [0b11#2 ++ qq.code ++ 0b0101#4] := by
  cases qq <;> rfl

theorem stackPair_af (s : State) :
    s.stackPair .af = s.reg .a ++ (BitVec.ofBool s.cpu.flags.z ++ BitVec.ofBool s.cpu.flags.n ++
      BitVec.ofBool s.cpu.flags.h ++ BitVec.ofBool s.cpu.flags.c ++ 0b0000#4) :=
  rfl

/-! A word put in a pair is its two bytes put in the two registers (R21); the low byte of `AF` is decoded to the flags (R24). -/

section
variable (t : State) (h l : Byte)

theorem setStackPair_bc_word : t.setStackPair .bc (word h l) = (t.setReg .b h).setReg .c l := by
  rw [State.setStackPair, Cpu.setStackPair, hi_word, lo_word]
  rfl

theorem setStackPair_de_word : t.setStackPair .de (word h l) = (t.setReg .d h).setReg .e l := by
  rw [State.setStackPair, Cpu.setStackPair, hi_word, lo_word]
  rfl

theorem setStackPair_hl_word : t.setStackPair .hl (word h l) = (t.setReg .h h).setReg .l l := by
  rw [State.setStackPair, Cpu.setStackPair, hi_word, lo_word]
  rfl

theorem setStackPair_af_word : t.setStackPair .af (word h l) = (t.setReg .a h).setFlags (Flags.decode l) := by
  rw [State.setStackPair, Cpu.setStackPair, hi_word, lo_word]
  rfl

end

/-! The operations. -/

/-- The sum and its carries over the integers (R155, R200). -/
theorem loadHLSPe_eq (e : Byte) (s : State) :
    loadHLSPe e s = .next ((s.setPair .hl (BitVec.ofInt 16 (s.cpu.sp.toNat + e.toInt))).setFlags
      { z := false, n := false
        h := decide (0xF < s.cpu.sp.toNat % 16 + e.toNat % 16)
        c := decide (0xFF < s.cpu.sp.toNat % 256 + e.toNat) }) := by
  rw [loadHLSPe, spPlusE_eq]

section
variable {s : State} (h : s.dmaSafe = true)
include h

theorem storeSP_done {nn : Word} (ha : s.supported nn = true) (hb : s.supported (nn + 1) = true)
    (hm : (s.tick.busWrite nn (lo s.cpu.sp)).dmaSafe = true) :
    storeSP nn s = .next ((s.tick.busWrite nn (lo s.cpu.sp)).tick.busWrite (nn + 1) (hi s.cpu.sp)) := by
  rw [storeSP, writeWord_done _ h ha hb hm, Flow.outcome_done]

theorem pushPair_done {qq : StackPair} (ha : s.supported (s.cpu.sp - 2) = true) (hb : s.supported (s.cpu.sp - 1) = true)
    (hm : (afterPushLow (s.stackPair qq) s).dmaSafe = true) :
    pushPair qq s =
      .next ((afterPushLow (s.stackPair qq) s).tick.busWrite (s.cpu.sp - 1) (hi (s.stackPair qq))) := by
  rw [pushPair, pushWord_done _ h ha hb hm, Flow.outcome_done]

theorem popPair_done (qq : StackPair) (ha : s.supported s.cpu.sp = true) (hb : s.supported (s.cpu.sp + 1) = true) :
    popPair qq s = .next ((s.tick.tick.setSp (s.cpu.sp + 2)).setStackPair qq
      (word (s.tick.tick.busByte (s.cpu.sp + 1)) (s.tick.busByte s.cpu.sp))) := by
  rw [popPair, popWord_done h ha hb, Flow.bind_done, Flow.outcome_done]

end

/-! The statements. -/

/-- Settles O8: no access is made; each form's bytes and operation are as its rule prints them, the sum with `sp` by its law. -/
theorem wordLoads : Obligations.WordLoads := fun _ s =>
  ⟨fun rr nn hf => ⟨(encode_of_form hf).trans (encodeForm_ldPair rr nn), exec_of_form hf s⟩,
    fun hf => ⟨encode_of_form hf, exec_of_form hf s⟩,
    fun e hf => ⟨encode_of_form hf, (exec_of_form hf s).trans (loadHLSPe_eq e s)⟩⟩

/-- Settles O9: the two writes of a word, which a push makes below the old `sp`. -/
theorem wordStores : Obligations.WordStores := fun _ s h =>
  ⟨stackPair_af s,
    fun _ hf ha hb hm => ⟨encode_of_form hf, (exec_of_form hf s).trans (storeSP_done h ha hb hm)⟩,
    fun qq hf ha hb hm =>
      ⟨(encode_of_form hf).trans (encodeForm_push qq), (exec_of_form hf s).trans (pushPair_done h ha hb hm)⟩⟩

/-- Settles O10: the two reads of a word, which then goes to the pair byte by byte. -/
theorem pops : Obligations.Pops := fun i s h ha hb => by
  have run {qq : StackPair} {t : State} (hf : i.form = .pop qq)
      (ht : (s.tick.tick.setSp (s.cpu.sp + 2)).setStackPair qq
        (word (s.tick.tick.busByte (s.cpu.sp + 1)) (s.tick.busByte s.cpu.sp)) = t) : exec i s = .next t :=
    (exec_of_form hf s).trans ((popPair_done h qq ha hb).trans (congrArg Host.Outcome.next ht))
  exact ⟨fun hf => ⟨encode_of_form hf, run hf (setStackPair_bc_word _ _ _)⟩,
    fun hf => ⟨encode_of_form hf, run hf (setStackPair_de_word _ _ _)⟩,
    fun hf => ⟨encode_of_form hf, run hf (setStackPair_hl_word _ _ _)⟩,
    fun hf => ⟨encode_of_form hf, run hf (setStackPair_af_word _ _ _)⟩⟩

end Sys2Proof.Machine
end

section
/-! PROOF. The 8-bit ALU (42_alu8.md): each operation on `A` and a byte over the integers, what each shared operation answers
where its accesses raise no fault, then form by form; last, what `DAA` makes of a sum or a difference of packed decimals. -/

namespace Sys2Proof.Machine

/-! The two-operand operations (R161 to R184). -/

section
variable (s : State) (v : Byte)

theorem applyAlu_add : applyAlu .add v s = addTo s v false := by
  rw [applyAlu, aluOp, add8_eq]
  rfl

theorem applyAlu_adc : applyAlu .adc v s = addTo s v s.cpu.flags.c := by
  rw [applyAlu, aluOp, add8_eq]
  rfl

theorem applyAlu_sub : applyAlu .sub v s = subFrom s v false := by
  rw [applyAlu, aluOp, sub8_eq]
  rfl

theorem applyAlu_sbc : applyAlu .sbc v s = subFrom s v s.cpu.flags.c := by
  rw [applyAlu, aluOp, sub8_eq]
  rfl

theorem applyAlu_and : applyAlu .and v s = logicTo s (s.reg .a &&& v) true := rfl

theorem applyAlu_xor : applyAlu .xor v s = logicTo s (s.reg .a ^^^ v) false := rfl

theorem applyAlu_or : applyAlu .or v s = logicTo s (s.reg .a ||| v) false := rfl

/-- `CP` writes back the `A` it read. -/
theorem applyAlu_cp : applyAlu .cp v s = s.setFlags (subFlags (s.reg .a) v false) := by
  rw [applyAlu, aluOp, sub8_eq]
  rfl

end

theorem alu8_atHL_done {s : State} (h : s.dmaSafe = true) (ha : s.supported (s.pair .hl) = true) (op : AluOp) :
    alu8 op .atHL s = .next (applyAlu op (s.tick.busByte (s.pair .hl)) s.tick) := by
  rw [alu8, readR8, readByte_done h ha]
  rfl

/-! The bytes of the three operand forms, and the state each leaves, under the name its operation gives it. -/

section
variable {i : Instr} {s t : State} {op : AluOp}

theorem alu_reg {r : Reg8} (hf : i.form = .alu op (.reg r)) (ht : applyAlu op (s.reg r) s = t) :
    encode i = [0b10#2 ++ op.code ++ r.code] ∧ exec i s = .next t :=
  ⟨encode_of_form hf, (exec_of_form hf s).trans (congrArg Host.Outcome.next ht)⟩

theorem alu_atHL (hf : i.form = .alu op .atHL) (h : s.dmaSafe = true) (ha : s.supported (s.pair .hl) = true)
    (ht : applyAlu op (s.tick.busByte (s.pair .hl)) s.tick = t) :
    encode i = [0b10#2 ++ op.code ++ 0b110#3] ∧ exec i s = .next t :=
  ⟨encode_of_form hf, (exec_of_form hf s).trans ((alu8_atHL_done h ha op).trans (congrArg Host.Outcome.next ht))⟩

theorem alu_imm {n : Byte} (hf : i.form = .aluImm op n) (ht : applyAlu op n s = t) :
    encode i = [0b11#2 ++ op.code ++ 0b110#3, n] ∧ exec i s = .next t :=
  ⟨encode_of_form hf, (exec_of_form hf s).trans (congrArg Host.Outcome.next ht)⟩

end

/-- Settles O11: the sums of `Add8`; the tick before the read of `(HL)` leaves the carry. -/
theorem additions : Obligations.Additions := fun _ s =>
  ⟨fun _ hf => alu_reg hf (applyAlu_add s _),
    fun hf h ha => alu_atHL hf h ha (applyAlu_add s.tick _),
    fun n hf => alu_imm hf (applyAlu_add s n),
    fun _ hf => alu_reg hf (applyAlu_adc s _),
    fun hf h ha => alu_atHL hf h ha ((applyAlu_adc s.tick _).trans (by rw [tick_cpu])),
    fun n hf => alu_imm hf (applyAlu_adc s n)⟩

/-- Settles O12: the differences of `Sub8`; the tick before the read of `(HL)` leaves `A` and the carry. -/
theorem subtractions : Obligations.Subtractions := fun _ s =>
  ⟨fun _ hf => alu_reg hf (applyAlu_sub s _),
    fun hf h ha => alu_atHL hf h ha (applyAlu_sub s.tick _),
    fun n hf => alu_imm hf (applyAlu_sub s n),
    fun _ hf => alu_reg hf (applyAlu_sbc s _),
    fun hf h ha => alu_atHL hf h ha ((applyAlu_sbc s.tick _).trans (by rw [tick_cpu])),
    fun n hf => alu_imm hf (applyAlu_sbc s n),
    fun _ hf => alu_reg hf (applyAlu_cp s _),
    fun hf h ha => alu_atHL hf h ha ((applyAlu_cp s.tick _).trans (by rw [tick_reg])),
    fun n hf => alu_imm hf (applyAlu_cp s n)⟩

/-- Settles O13: the bitwise results; the tick before the read of `(HL)` leaves `A`. -/
theorem logicalOperations : Obligations.LogicalOperations := fun _ s =>
  ⟨fun _ hf => alu_reg hf (applyAlu_and s _),
    fun hf h ha => alu_atHL hf h ha ((applyAlu_and s.tick _).trans (by rw [tick_reg])),
    fun n hf => alu_imm hf (applyAlu_and s n),
    fun _ hf => alu_reg hf (applyAlu_xor s _),
    fun hf h ha => alu_atHL hf h ha ((applyAlu_xor s.tick _).trans (by rw [tick_reg])),
    fun n hf => alu_imm hf (applyAlu_xor s n),
    fun _ hf => alu_reg hf (applyAlu_or s _),
    fun hf h ha => alu_atHL hf h ha ((applyAlu_or s.tick _).trans (by rw [tick_reg])),
    fun n hf => alu_imm hf (applyAlu_or s n)⟩

/-! Read, change, write (R185 to R188). -/

theorem modify8_reg (r : Reg8) (f : Byte → Flags → Byte × Flags) (s : State) :
    modify8 (.reg r) f s =
      .next ((s.setReg r (f (s.reg r) s.cpu.flags).1).setFlags (f (s.reg r) s.cpu.flags).2) :=
  rfl

/-- On `(HL)` the read and the write have a tick each; neither tick changes the CPU or lets a transfer raise. -/
theorem modify8_atHL_done {s : State} (h : s.dmaSafe = true) (ha : s.supported (s.pair .hl) = true)
    (f : Byte → Flags → Byte × Flags) :
    modify8 .atHL f s =
      .next ((s.tick.tick.busWrite (s.pair .hl) (f (s.tick.busByte (s.pair .hl)) s.cpu.flags).1).setFlags
        (f (s.tick.busByte (s.pair .hl)) s.cpu.flags).2) := by
  have hw := writeByte_done (s := s.tick) (a := s.pair .hl) (f (s.tick.busByte (s.pair .hl)) s.cpu.flags).1
    (tick_dmaSafe h) ((tick_supported s _).trans ha)
  rw [modify8, readR8, readByte_done h ha, Flow.bind_done, tick_cpu]
  show ((writeByte (s.tick.pair .hl) _ s.tick).bind _).outcome = _
  rw [tick_pair, hw]
  rfl

/-- Settles O14: `Inc8` and `Dec8` between the read and the write of the operand. -/
theorem incrementsAndDecrements : Obligations.IncrementsAndDecrements := by
  intro i s
  refine ⟨fun r hf => ⟨encode_of_form hf, ?_⟩, fun r hf => ⟨encode_of_form hf, ?_⟩,
    fun h ha => ⟨fun hf => ⟨encode_of_form hf, ?_⟩, fun hf => ⟨encode_of_form hf, ?_⟩⟩⟩
  · rw [exec_of_form hf, execForm, inc8, modify8_reg, increment8_eq]
  · rw [exec_of_form hf, execForm, dec8, modify8_reg, decrement8_eq]
  · rw [exec_of_form hf, execForm, inc8, modify8_atHL_done h ha, increment8_eq]
  · rw [exec_of_form hf, execForm, dec8, modify8_atHL_done h ha, decrement8_eq]

/-- Settles O17: no access is made; each form's bytes and operation are as its rule prints them. -/
theorem complementsAndCarry : Obligations.ComplementsAndCarry := fun _ s =>
  ⟨fun hf => ⟨encode_of_form hf, exec_of_form hf s⟩, fun hf => ⟨encode_of_form hf, exec_of_form hf s⟩,
    fun hf => ⟨encode_of_form hf, exec_of_form hf s⟩⟩

/-! `DAA` (R189). -/

/-- The low correction: after a subtraction by `H` alone, after an addition also for a low nibble above 9. -/
def daaLow (a : Nat) (f : Flags) : Nat := if f.h = true ∨ (f.n = false ∧ 9 < a % 16) then 6 else 0

/-- Whether the high correction is made: after a subtraction by `C` alone, after an addition also for `A` above 0x99. -/
def daaCarry (a : Nat) (f : Flags) : Bool := f.c || (!f.n && decide (0x99 < a))

/-- The high correction. -/
def daaHigh (a : Nat) (f : Flags) : Nat := if daaCarry a f = true then 0x60 else 0

/-- The result of `DAA` over the integers. -/
def daaResult (a : Nat) (f : Flags) : Nat :=
  (if f.n = true then a + 512 - (daaLow a f + daaHigh a f) else a + daaLow a f + daaHigh a f) % 256

theorem daaLow_le (a : Nat) (f : Flags) : daaLow a f ≤ 6 := by
  unfold daaLow
  split <;> decide

theorem daaHigh_le (a : Nat) (f : Flags) : daaHigh a f ≤ 0x60 := by
  unfold daaHigh
  split <;> decide

theorem daaResult_lt (a : Nat) (f : Flags) : daaResult a f < 256 := Nat.mod_lt _ (by decide)

/-- The two corrections share no bit, so that joining them is adding them. -/
theorem corrections_or (low high : Prop) [Decidable low] [Decidable high] :
    ((if low then 0x06 else 0x00) ||| (if high then 0x60 else 0x00) : Byte) =
      BitVec.ofNat 8 ((if low then 6 else 0) + if high then 0x60 else 0) := by
  by_cases hlow : low <;> by_cases hhigh : high <;> simp only [hlow, hhigh] <;> rfl

theorem daaAdjust_eq (a : Byte) (f : Flags) :
    daaAdjust a f = (BitVec.ofNat 8 (daaLow a.toNat f + daaHigh a.toNat f), daaCarry a.toNat f) := by
  have hlow : (if f.n then f.h else f.h || decide (9 < a.toNat % 16)) =
      decide (f.h = true ∨ (f.n = false ∧ 9 < a.toNat % 16)) := by
    cases f.n <;> simp
  have hhigh : (if f.n then f.c else f.c || decide (0x99 < a.toNat)) = daaCarry a.toNat f := by
    rw [daaCarry]
    cases f.n <;> simp
  simp only [daaAdjust, nibble_eq, hlow, hhigh, decide_eq_true_iff, corrections_or]
  rfl

/-- Subtracting the corrections modulo 256 is subtracting them from `A` raised by a multiple of 256. -/
theorem daa8_fst (a : Byte) (f : Flags) : (daa8 a f).1 = BitVec.ofNat 8 (daaResult a.toNat f) := by
  have hlow := daaLow_le a.toNat f
  have hhigh := daaHigh_le a.toNat f
  apply BitVec.eq_of_toNat_eq
  simp only [daa8, daaAdjust_eq, daaResult]
  split
  · rw [BitVec.toNat_sub, BitVec.toNat_ofNat, BitVec.toNat_ofNat]
    omega
  · rw [BitVec.toNat_add, BitVec.toNat_ofNat, BitVec.toNat_ofNat]
    omega

theorem ofNat_eq_zero_iff {n : Nat} (h : n < 256) : BitVec.ofNat 8 n = (0 : Byte) ↔ n = 0 := by
  rw [← BitVec.toNat_inj, BitVec.toNat_ofNat, Nat.mod_eq_of_lt h]
  rfl

/-- `DAA` (R189). -/
theorem daa8_eq (a : Byte) (f : Flags) :
    daa8 a f = (BitVec.ofNat 8 (daaResult a.toNat f),
      ⟨decide (daaResult a.toNat f = 0), f.n, false, daaCarry a.toNat f⟩) := by
  have hz : ((daa8 a f).1 == 0) = decide (daaResult a.toNat f = 0) := by
    rw [daa8_fst, zero_iff]
    exact decide_eq_decide.mpr (ofNat_eq_zero_iff (daaResult_lt _ _))
  have hc : (daaAdjust a f).2 = daaCarry a.toNat f := congrArg Prod.snd (daaAdjust_eq a f)
  rw [← daa8_fst, ← hz, ← hc]
  rfl

theorem exec_daa {i : Instr} (hf : i.form = .daa) (s : State) :
    exec i s = .next ((s.setReg .a (BitVec.ofNat 8 (daaResult (s.reg .a).toNat s.cpu.flags))).setFlags
      ⟨decide (daaResult (s.reg .a).toNat s.cpu.flags = 0), s.cpu.flags.n, false,
        daaCarry (s.reg .a).toNat s.cpu.flags⟩) := by
  rw [exec_of_form hf, execForm, decimalAdjust, daa8_eq]

/-- Settles O15: the tests are those of `daaLow`, `daaCarry` and `daaHigh`, the result is `daaResult`. (`decimalAdjust` is the model's
operation.) -/
theorem decimalAdjust_rule : Obligations.DecimalAdjust := fun _ s hf => ⟨encode_of_form hf, exec_daa hf s⟩

/-- The two results of `DAA` that a decimal number is read from. -/
theorem exec_daa_reads (s : State) :
    ∃ u, exec .daa s = .next u ∧ u.reg .a = BitVec.ofNat 8 (daaResult (s.reg .a).toNat s.cpu.flags) ∧
      u.cpu.flags.c = daaCarry (s.reg .a).toNat s.cpu.flags :=
  ⟨_, exec_daa rfl s, rfl, rfl⟩

/-! Packed decimals: the byte of two digits, the tens in the high nibble. First the corrections over the integers, from the flags an
addition or a subtraction leaves. -/

section
variable {x1 x0 y1 y0 : Nat} (hx0 : x0 < 10) (hy0 : y0 < 10) {f : Flags}
include hx0 hy0

/-- The byte borrows where the decimal does. -/
theorem daaCarry_difference (hn : f.n = true) (hc : f.c = decide (16 * x1 + x0 < 16 * y1 + y0)) (a : Nat) :
    daaCarry a f = decide (10 * x1 + x0 < 10 * y1 + y0) := by
  rw [daaCarry, hn, hc, Bool.not_true, Bool.false_and, Bool.or_false]
  exact decide_eq_decide.mpr (by omega)

/-- The low correction is made where the sum of the low digits has a second one. -/
theorem daaLow_sum (hn : f.n = false) (hh : f.h = decide (0xF < x0 + y0)) :
    daaLow ((16 * x1 + x0 + (16 * y1 + y0)) % 256) f = if 10 ≤ x0 + y0 then 6 else 0 := by
  have tests : (f.h = true ∨ f.n = false ∧ 9 < (16 * x1 + x0 + (16 * y1 + y0)) % 256 % 16) ↔ 10 ≤ x0 + y0 := by
    rw [hn, hh, decide_eq_true_iff, eq_self, true_and]
    omega
  simp only [daaLow, tests]

variable (hx1 : x1 < 10) (hy1 : y1 < 10)
include hx1 hy1

/-- After an addition the high correction is made where the decimal sum has a third digit. -/
theorem daaCarry_sum (hn : f.n = false) (hc : f.c = decide (0xFF < 16 * x1 + x0 + (16 * y1 + y0))) :
    daaCarry ((16 * x1 + x0 + (16 * y1 + y0)) % 256) f = decide (100 ≤ 10 * x1 + x0 + (10 * y1 + y0)) := by
  rw [daaCarry, hn, hc, Bool.not_false, Bool.true_and, ← Bool.decide_or]
  exact decide_eq_decide.mpr (by omega)

theorem daaResult_sum (hn : f.n = false) (hh : f.h = decide (0xF < x0 + y0))
    (hc : f.c = decide (0xFF < 16 * x1 + x0 + (16 * y1 + y0))) :
    daaResult ((16 * x1 + x0 + (16 * y1 + y0)) % 256) f =
      16 * ((10 * x1 + x0 + (10 * y1 + y0)) / 10 % 10) + (10 * x1 + x0 + (10 * y1 + y0)) % 10 := by
  simp only [daaResult, daaLow_sum hx0 hy0 hn hh, daaHigh, daaCarry_sum hx0 hy0 hx1 hy1 hn hc, hn,
    decide_eq_true_iff, Bool.false_eq_true, if_false]
  split <;> split <;> omega

/-- After a subtraction the corrections are made where the low digit and where the byte borrowed. -/
theorem daaResult_difference (hn : f.n = true) (hh : f.h = decide (x0 < y0))
    (hc : f.c = decide (16 * x1 + x0 < 16 * y1 + y0)) :
    daaResult ((16 * x1 + x0 + 256 - (16 * y1 + y0)) % 256) f =
      16 * ((10 * x1 + x0 + 100 - (10 * y1 + y0)) / 10 % 10) + (10 * x1 + x0 + 100 - (10 * y1 + y0)) % 10 := by
  simp only [daaResult, daaLow, daaHigh, daaCarry_difference hx0 hy0 hn hc, hn, hh, decide_eq_true_iff,
    Bool.true_eq_false, false_and, or_false, if_true]
  by_cases hborrow : 10 * x1 + x0 < 10 * y1 + y0
  · have hbyte : 16 * x1 + x0 + 256 - (16 * y1 + y0) < 256 := by omega
    have htens : (10 * x1 + x0 + 100 - (10 * y1 + y0)) / 10 < 10 := by omega
    rw [if_pos hborrow, Nat.mod_eq_of_lt hbyte, Nat.mod_eq_of_lt htens]
    split <;> omega
  · rw [if_neg hborrow]
    split <;> omega

end

/-! What the two operations leave of the operands' digits. -/

section
variable {s : State} {v : Byte} {x1 x0 y1 y0 : Nat} (ha : (s.reg .a).toNat = 16 * x1 + x0) (hv : v.toNat = 16 * y1 + y0)
include ha hv

theorem addTo_packed_a : ((addTo s v false).reg .a).toNat = (16 * x1 + x0 + (16 * y1 + y0)) % 256 := by
  rw [← ha, ← hv]
  exact BitVec.toNat_ofNat ..

theorem addTo_packed_c : (addTo s v false).cpu.flags.c = decide (0xFF < 16 * x1 + x0 + (16 * y1 + y0)) := by
  rw [← ha, ← hv]
  rfl

theorem subFrom_packed_a :
    ((subFrom s v false).reg .a).toNat = (16 * x1 + x0 + 256 - (16 * y1 + y0)) % 256 := by
  have hofInt : ((subFrom s v false).reg .a).toNat = (((s.reg .a).toNat - v.toNat - 0 : Int) % 256).toNat :=
    BitVec.toNat_ofInt ..
  have hlt := v.isLt
  rw [hofInt, ha, hv]
  omega

theorem subFrom_packed_c : (subFrom s v false).cpu.flags.c = decide (16 * x1 + x0 < 16 * y1 + y0) := by
  rw [← ha, ← hv]
  rfl

variable (hx0 : x0 < 10) (hy0 : y0 < 10)
include hx0 hy0

theorem addTo_packed_h : (addTo s v false).cpu.flags.h = decide (0xF < x0 + y0) := by
  show decide (0xF < (s.reg .a).toNat % 16 + v.toNat % 16 + 0) = _
  rw [ha, hv]
  exact decide_eq_decide.mpr (by omega)

theorem subFrom_packed_h : (subFrom s v false).cpu.flags.h = decide (x0 < y0) := by
  show decide ((s.reg .a).toNat % 16 < v.toNat % 16 + 0) = _
  rw [ha, hv]
  exact decide_eq_decide.mpr (by omega)

end

theorem packed_toNat {v : Byte} {x1 x0 : Nat} (h1 : x1 < 10) (h0 : x0 < 10) (h : v = BitVec.ofNat 8 (16 * x1 + x0)) :
    v.toNat = 16 * x1 + x0 := by
  rw [h, BitVec.toNat_ofNat]
  omega

/-- Settles O16: `ADD` and `SUB` leave the carries of the low digits in `H` and of the bytes in `C`, from which `DAA` makes its two
corrections. -/
theorem decimalAdjustIsDecimal : Obligations.DecimalAdjustIsDecimal := by
  intro s t x1 x0 y1 y0 hx1 hx0 hy1 hy0 hA hB
  have ha := packed_toNat hx1 hx0 hA
  have hb := packed_toNat hy1 hy0 hB
  obtain ⟨u, hu, hresult, hcarry⟩ := exec_daa_reads t
  constructor
  · intro hadd
    obtain rfl : addTo s (s.reg .b) false = t :=
      Host.Outcome.next.inj ((alu_reg (i := .add_A_B) rfl (applyAlu_add s _)).2.symm.trans hadd)
    have hh := addTo_packed_h ha hb hx0 hy0
    have hc := addTo_packed_c ha hb
    rw [addTo_packed_a ha hb] at hresult hcarry
    exact ⟨u, hu, by rw [hresult, daaResult_sum hx0 hy0 hx1 hy1 rfl hh hc],
      by rw [hcarry, daaCarry_sum hx0 hy0 hx1 hy1 rfl hc]⟩
  · intro hsub
    obtain rfl : subFrom s (s.reg .b) false = t :=
      Host.Outcome.next.inj ((alu_reg (i := .sub_B) rfl (applyAlu_sub s _)).2.symm.trans hsub)
    have hh := subFrom_packed_h ha hb hx0 hy0
    have hc := subFrom_packed_c ha hb
    rw [subFrom_packed_a ha hb] at hresult
    exact ⟨u, hu, by rw [hresult, daaResult_difference hx0 hy0 hx1 hy1 rfl hh hc],
      by rw [hcarry, daaCarry_difference hx0 hy0 rfl hc]⟩

end Sys2Proof.Machine
end

section
/-! PROOF. The CPU's frame (R160, R20 to R27): each update of the CPU against what its form writes, then the shared operations, form
by form. An access changes nothing of the CPU, raised or not. -/

namespace Sys2Proof.Machine

/-- The flags a form does not write are as they were. -/
structure FlagsKept (writes old new : Flags) : Prop where
  z : writes.z = false → new.z = old.z
  n : writes.n = false → new.n = old.n
  h : writes.h = false → new.h = old.h
  c : writes.c = false → new.c = old.c

theorem FlagsKept.refl (w f : Flags) : FlagsKept w f f := ⟨fun _ => rfl, fun _ => rfl, fun _ => rfl, fun _ => rfl⟩

theorem FlagsKept.of_all (old new : Flags) : FlagsKept ⟨true, true, true, true⟩ old new := ⟨nofun, nofun, nofun, nofun⟩

/-- `t` has of the CPU of `s` what a form does not write. -/
structure CpuKept (f : Form) (s t : State) : Prop where
  reg : ∀ r, r ∉ destRegs f → t.reg r = s.reg r
  sp : writesSp f = false → t.cpu.sp = s.cpu.sp
  flags : FlagsKept (writesFlags f) s.cpu.flags t.cpu.flags
  ime : f ≠ .di → f ≠ .reti → t.cpu.ime = s.cpu.ime
  eiPending : f ≠ .di → f ≠ .ei → t.cpu.eiPending = s.cpu.eiPending
  halted : f ≠ .halt → t.cpu.halted = s.cpu.halted
  stopped : (∀ n, f ≠ .stop n) → t.cpu.stopped = s.cpu.stopped

namespace CpuKept

theorem of_cpu_eq {f : Form} {s t u : State} (h : CpuKept f s t) (hu : u.cpu = t.cpu) : CpuKept f s u := by
  obtain ⟨reg, sp, flags, ime, eiPending, halted, stopped⟩ := h
  unfold State.reg at reg
  rw [← hu] at reg sp flags ime eiPending halted stopped
  exact ⟨reg, sp, flags, ime, eiPending, halted, stopped⟩

theorem refl (f : Form) (s : State) : CpuKept f s s :=
  ⟨fun _ _ => rfl, fun _ => rfl, .refl _ _, fun _ _ => rfl, fun _ _ => rfl, fun _ => rfl, fun _ => rfl⟩

section
variable {f : Form} {s t : State} (h : CpuKept f s t)
include h

/-! One update of the CPU. -/

theorem setReg {r : Reg8} (v : Byte) (hr : r ∈ destRegs f) : CpuKept f s (t.setReg r v) where
  reg q hq := (Cpu.get_set_other t.cpu (r := r) (q := q) v fun e => hq (e ▸ hr)).trans (h.reg q hq)
  sp := by simpa using h.sp
  flags := by simpa using h.flags
  ime := by simpa using h.ime
  eiPending := by simpa using h.eiPending
  halted := by simpa using h.halted
  stopped := by simpa using h.stopped

theorem setFlags {g : Flags} (hg : FlagsKept (writesFlags f) s.cpu.flags g) : CpuKept f s (t.setFlags g) :=
  ⟨fun r hr => (Cpu.get_with_flags _ r g).trans (h.reg r hr), h.sp, hg, h.ime, h.eiPending, h.halted, h.stopped⟩

theorem setSp (v : Word) (hf : writesSp f = true) : CpuKept f s (t.setSp v) :=
  ⟨fun r hr => (Cpu.get_with_sp _ r v).trans (h.reg r hr), fun e => absurd (hf.symm.trans e) (by decide), h.flags, h.ime,
    h.eiPending, h.halted, h.stopped⟩

theorem setPc (v : Word) : CpuKept f s (t.setPc v) :=
  ⟨fun r hr => (Cpu.get_with_pc _ r v).trans (h.reg r hr), h.sp, h.flags, h.ime, h.eiPending, h.halted, h.stopped⟩

theorem setIme (b : Bool) (hf : f = .di ∨ f = .reti) : CpuKept f s (t.setIme b) :=
  ⟨fun r hr => (Cpu.get_with_ime _ r b).trans (h.reg r hr), h.sp, h.flags, fun hdi hreti => absurd hf (by simp [hdi, hreti]),
    h.eiPending, h.halted, h.stopped⟩

theorem setEiPending (b : Bool) (hf : f = .di ∨ f = .ei) : CpuKept f s (t.setEiPending b) :=
  ⟨fun r hr => (by cases r <;> rfl : (t.setEiPending b).reg r = t.reg r).trans (h.reg r hr), h.sp, h.flags, h.ime,
    fun hdi hei => absurd hf (by simp [hdi, hei]), h.halted, h.stopped⟩

theorem setRegs {r q : Reg8} (v w : Byte) (hr : [r, q] ⊆ destRegs f) : CpuKept f s ((t.setReg r v).setReg q w) :=
  (h.setReg v (hr (List.mem_cons_self ..))).setReg w (hr (List.mem_cons_of_mem _ (List.mem_cons_self ..)))

theorem setPair {rr : Pair} (v : Word) (hr : pairBytes rr ⊆ destRegs f) (hsp : rr = .sp → writesSp f = true) :
    CpuKept f s (t.setPair rr v) := by
  cases rr
  case bc | de | hl => exact h.setRegs (hi v) (lo v) hr
  case sp => exact h.setSp v (hsp rfl)

theorem setStackPair {qq : StackPair} (v : Word) (hr : stackPairBytes qq ⊆ destRegs f)
    (hf : qq = .af → writesFlags f = ⟨true, true, true, true⟩) : CpuKept f s (t.setStackPair qq v) := by
  cases qq
  case bc | de | hl => exact h.setRegs (hi v) (lo v) hr
  case af => exact (h.setReg (hi v) (hr (List.mem_cons_self ..))).setFlags (hf rfl ▸ .of_all _ _)

/-- `CP` writes back the `A` it read. -/
theorem applyAlu {op : AluOp} (v : Byte) (hf : writesFlags f = ⟨true, true, true, true⟩)
    (ha : op ≠ .cp → .a ∈ destRegs f) : CpuKept f s (applyAlu op v t) := by
  have hreg : CpuKept f s (t.setReg .a (aluOp op (t.reg .a) v t.cpu.flags.c).1) := by
    by_cases hop : op = .cp
    · subst hop
      exact h.of_cpu_eq rfl
    · exact h.setReg _ (ha hop)
  exact hreg.setFlags (hf ▸ .of_all _ _)

theorem accUpdate (m : AccMem) (hm : m = .hlInc ∨ m = .hlDec → [.h, .l] ⊆ destRegs f) : CpuKept f s (accUpdate m t) := by
  cases m
  case hlInc => exact h.setPair _ (hm (.inl rfl)) nofun
  case hlDec => exact h.setPair _ (hm (.inr rfl)) nofun
  all_goals exact h

end

/-! The accesses. -/

theorem of_bind {α β : Type} {f : Form} {s : State} {x : Flow α} {g : α → State → Flow β} (hx : CpuKept f s x.state)
    (hg : ∀ v u, x = .done v u → CpuKept f s u → CpuKept f s (g v u).state) : CpuKept f s (x.bind g).state := by
  cases x with
  | done v u => exact hg v u rfl hx
  | raised u => exact hx

section
variable {f : Form} {s t : State} (h : CpuKept f s t)
include h

theorem tick : CpuKept f s t.tick := h.of_cpu_eq (tick_cpu t)

theorem readByte (a : Word) : CpuKept f s (readByte a t).state := by
  rcases readByte_cases a t with ⟨v, e⟩ | ⟨r, e⟩ <;> rw [e]
  · exact h.tick
  · exact h.tick.of_cpu_eq rfl

theorem writeByte (a : Word) (v : Byte) : CpuKept f s (writeByte a v t).state := by
  rcases writeByte_cases a v t with e | ⟨r, e⟩ <;> rw [e]
  · exact h.tick.of_cpu_eq (busWrite_cpu ..)
  · exact h.tick.of_cpu_eq rfl

theorem writeWord (a v : Word) : CpuKept f s (writeWord a v t).state :=
  of_bind (h.writeByte _ _) fun _ _ _ h => h.writeByte _ _

theorem pushWord (v : Word) (hf : writesSp f = true) : CpuKept f s (pushWord v t).state :=
  (h.setSp _ hf).writeWord _ v

theorem popWord (hf : writesSp f = true) : CpuKept f s (popWord t).state :=
  of_bind (of_bind (h.readByte _) fun _ _ _ h => of_bind (h.readByte _) fun _ _ _ h => h) fun _ _ _ h => h.setSp _ hf

theorem returnWord (hf : writesSp f = true) : CpuKept f s (returnWord t).state :=
  of_bind (h.popWord hf) fun _ _ _ h => h.setPc _

theorem readR8 (o : R8) : CpuKept f s (readR8 o t).state := by
  cases o
  · exact h
  · exact h.readByte _

theorem writeR8 {o : R8} (v : Byte) (ho : ∀ r, o = .reg r → r ∈ destRegs f) : CpuKept f s (writeR8 o v t).state := by
  cases o
  · exact h.setReg v (ho _ rfl)
  · exact h.writeByte _ v

end

end CpuKept

/-- A result that is a next state with what its form does not write. -/
def KeptNext (f : Form) (s : State) (r : Result) : Prop := ∃ t, r = .next t ∧ CpuKept f s t

section
variable {f : Form} {s : State}

theorem keptNext_next {t : State} (h : CpuKept f s t) : KeptNext f s (.next t) := ⟨t, rfl, h⟩

theorem keptNext_outcome {α : Type} {x : Flow α} (h : CpuKept f s x.state) : KeptNext f s x.outcome := ⟨_, rfl, h⟩

/-- The new flags are computed from those before the instruction, since the read leaves the CPU alone. -/
theorem modify8_kept (o : R8) (g : Byte → Flags → Byte × Flags) (ho : ∀ r, o = .reg r → r ∈ destRegs f)
    (hg : ∀ v, FlagsKept (writesFlags f) s.cpu.flags (g v s.cpu.flags).2) : KeptNext f s (modify8 o g s) :=
  keptNext_outcome <| .of_bind (CpuKept.readR8 (.refl f s) o) fun v _ e h =>
    .of_bind (h.writeR8 _ ho) fun _ _ _ h => h.setFlags (by rw [readR8_cpu e]; exact hg v)

theorem call_kept (nn : Word) (hf : writesSp f = true) : KeptNext f s (call nn s) :=
  keptNext_outcome <| .of_bind (CpuKept.pushWord (.refl f s) _ hf) fun _ _ _ h => h.setPc _

theorem ret_kept (hf : writesSp f = true) : KeptNext f s (ret s) := keptNext_outcome (CpuKept.returnWord (.refl f s) hf)

/-- A condition that does not hold leaves the state. -/
theorem keptNext_if {c : Bool} {r : Result} (hr : KeptNext f s r) : KeptNext f s (if c then r else .next s) := by
  cases c
  · exact keptNext_next (.refl f s)
  · exact hr

end

theorem a_mem_destRegs_alu {op : AluOp} (h : op ≠ .cp) (o : R8) : .a ∈ destRegs (.alu op o) := by
  cases op
  case cp => exact absurd rfl h
  all_goals exact List.mem_singleton.mpr rfl

theorem a_mem_destRegs_aluImm {op : AluOp} (h : op ≠ .cp) (n : Byte) : .a ∈ destRegs (.aluImm op n) := by
  cases op
  case cp => exact absurd rfl h
  all_goals exact List.mem_singleton.mpr rfl

theorem a_mem_destRegs_ldA (m : AccMem) : .a ∈ destRegs (.ldA m) := by
  cases m <;> exact List.mem_cons_self ..

/-- Every form but that of the row `PREFIX CB` keeps what it does not write. -/
theorem execForm_kept (f : Form) (s : State) (hf : ∀ op2, f ≠ .prefixCB op2) : KeptNext f s (execForm f s) := by
  have r := CpuKept.refl f s
  have mem (q : Reg8) : q ∈ [q] := List.mem_singleton.mpr rfl
  cases f
  case prefixCB op2 => exact absurd rfl (hf op2)
  case ld d o =>
    exact keptNext_outcome <| .of_bind (r.readR8 o) fun v _ _ h => h.writeR8 v (by rintro q rfl; exact mem q)
  case ldImm d n => exact keptNext_outcome (r.writeR8 n (by rintro q rfl; exact mem q))
  case ldA m =>
    exact keptNext_outcome <| .of_bind (r.readByte _) fun _ _ _ h =>
      (h.setReg _ (a_mem_destRegs_ldA m)).accUpdate m (by rintro (rfl | rfl) <;> decide)
  case stA m =>
    exact keptNext_outcome <| .of_bind (r.writeByte _ _) fun _ _ _ h => h.accUpdate m (by rintro (rfl | rfl) <;> decide)
  case ldPair rr nn => exact keptNext_next (r.setPair nn (List.Subset.refl _) (by rintro rfl; rfl))
  case ldNnSP nn => exact keptNext_outcome (r.writeWord _ _)
  case ldSPHL => exact keptNext_next (r.setSp _ rfl)
  case ldHLSPe e => exact keptNext_next ((r.setPair (rr := .hl) _ (List.Subset.refl _) nofun).setFlags (.of_all _ _))
  case push qq => exact keptNext_outcome (r.pushWord _ rfl)
  case pop qq =>
    exact keptNext_outcome <| .of_bind (r.popWord rfl) fun _ _ _ h =>
      h.setStackPair _ (List.Subset.refl _) (by rintro rfl; rfl)
  case alu op o =>
    exact keptNext_outcome <| .of_bind (r.readR8 o) fun v _ _ h => h.applyAlu v rfl fun hop => a_mem_destRegs_alu hop o
  case aluImm op n => exact keptNext_next (r.applyAlu n rfl fun hop => a_mem_destRegs_aluImm hop n)
  case inc d => exact modify8_kept d increment8 (by rintro q rfl; exact mem q) fun _ => ⟨nofun, nofun, nofun, fun _ => rfl⟩
  case dec d => exact modify8_kept d decrement8 (by rintro q rfl; exact mem q) fun _ => ⟨nofun, nofun, nofun, fun _ => rfl⟩
  case daa => exact keptNext_next ((r.setReg _ (mem .a)).setFlags ⟨nofun, fun _ => rfl, nofun, nofun⟩)
  case cpl => exact keptNext_next ((r.setReg _ (mem .a)).setFlags ⟨fun _ => rfl, nofun, nofun, fun _ => rfl⟩)
  case scf => exact keptNext_next (r.setFlags ⟨fun _ => rfl, nofun, nofun, nofun⟩)
  case ccf => exact keptNext_next (r.setFlags ⟨fun _ => rfl, nofun, nofun, nofun⟩)
  case addHL rr =>
    exact keptNext_next ((r.setPair (rr := .hl) _ (List.Subset.refl _) nofun).setFlags ⟨fun _ => rfl, nofun, nofun, nofun⟩)
  case incPair rr => exact keptNext_next (r.setPair _ (List.Subset.refl _) (by rintro rfl; rfl))
  case decPair rr => exact keptNext_next (r.setPair _ (List.Subset.refl _) (by rintro rfl; rfl))
  case addSP e => exact keptNext_next ((r.setSp _ rfl).setFlags (.of_all _ _))
  case rlca | rrca | rla | rra => exact keptNext_next ((r.setReg _ (mem .a)).setFlags (.of_all _ _))
  case rot k o => exact modify8_kept o (rotate k) (by rintro q rfl; exact mem q) fun _ => .of_all _ _
  case bit b o =>
    exact keptNext_outcome <| .of_bind (r.readR8 o) fun _ _ e h =>
      h.setFlags (by rw [readR8_cpu e]; exact ⟨nofun, nofun, nofun, fun _ => rfl⟩)
  case res b o =>
    exact keptNext_outcome <| .of_bind (r.readR8 o) fun _ _ _ h => h.writeR8 _ (by rintro q rfl; exact mem q)
  case set b o =>
    exact keptNext_outcome <| .of_bind (r.readR8 o) fun _ _ _ h => h.writeR8 _ (by rintro q rfl; exact mem q)
  case jp nn => exact keptNext_next (r.setPc nn)
  case jpCC cc nn => exact keptNext_if (keptNext_next (r.setPc nn))
  case jpHL => exact keptNext_next (r.setPc _)
  case jr e => exact keptNext_next (r.setPc _)
  case jrCC cc e => exact keptNext_if (keptNext_next (r.setPc _))
  case call nn => exact call_kept nn rfl
  case callCC cc nn => exact keptNext_if (call_kept nn rfl)
  case ret => exact ret_kept rfl
  case retCC cc => exact keptNext_if (ret_kept rfl)
  case reti => exact keptNext_outcome <| .of_bind (r.returnWord rfl) fun _ _ _ h => h.setIme true (.inr rfl)
  case rst t => exact call_kept _ rfl
  case nop => exact keptNext_next r
  case halt => exact keptNext_next ⟨r.reg, r.sp, r.flags, r.ime, r.eiPending, fun hf => absurd rfl hf, r.stopped⟩
  case stop n =>
    show KeptNext _ s (stopCpu n s)
    unfold stopCpu; split
    · exact keptNext_next ⟨r.reg, r.sp, r.flags, r.ime, r.eiPending, r.halted, fun hf => absurd rfl (hf n)⟩
    · exact keptNext_next (r.of_cpu_eq rfl)
  case di => exact keptNext_next ((r.setIme false (.inl rfl)).setEiPending false (.inl rfl))
  case ei => exact keptNext_next (r.setEiPending true (.inr rfl))
  case undefined op => exact keptNext_next (r.of_cpu_eq rfl)

/-- Settles O30: an instruction runs its effect's form, which keeps what it does not write. -/
theorem cpuFrame : Obligations.CpuFrame := by
  intro i s t hexec
  obtain ⟨u, hu, h⟩ := execForm_kept (effectForm i) s (effectForm_ne_prefix i)
  obtain rfl : u = t := Host.Outcome.next.inj (hu.symm.trans ((exec_eq_effectForm i s).symm.trans hexec))
  obtain ⟨reg, sp, ⟨z, n, half, c⟩, ime, eiPending, halted, stopped⟩ := h
  exact ⟨reg, sp, z, n, half, c, ime, eiPending, halted, stopped⟩

end Sys2Proof.Machine
end

section
/-! PROOF. 16-bit arithmetic (43_alu16.md): the bytes of the forms with a pair in the opcode, the two sums over the integers, then
form by form. -/

namespace Sys2Proof.Machine

/-- The last two fields of the split as one nibble (R101, R102). -/
theorem opcodeOfPair_eq (x p : BitVec 2) (q : BitVec 1) (z : BitVec 3) : opcodeOfPair x p q z = x ++ p ++ (q ++ z) :=
  BitVec.append_assoc

/-- A form whose one byte is a split with a pair in it, as the field pattern of its rule prints it. -/
theorem encode_of_pairForm {i : Instr} {f : Form} {rr : Pair} {q : BitVec 1} {z : BitVec 3} (hf : i.form = f)
    (he : encodeForm f = [opcodeOfPair 0 rr.code q z]) : encode i = [0b00#2 ++ rr.code ++ (q ++ z)] := by
  rw [encode_of_form hf, he, opcodeOfPair_eq]
  rfl

/-- The carries out of bits 11 and 15 are those of the integer sum (R201). -/
theorem addHL_eq (rr : Pair) (s : State) :
    addHL rr s = .next ((s.setPair .hl (BitVec.ofNat 16 ((s.pair .hl).toNat + (s.pair rr).toNat))).setFlags
      { z := s.cpu.flags.z, n := false
        h := decide (0xFFF < (s.pair .hl).toNat % 4096 + (s.pair rr).toNat % 4096)
        c := decide (0xFFFF < (s.pair .hl).toNat + (s.pair rr).toNat) }) := by
  rw [addHL, add16_eq]

/-- The byte is signed in the sum and unsigned in the carries (R200, R204). -/
theorem addSP_eq (e : Byte) (s : State) :
    addSP e s = .next ((s.setSp (BitVec.ofInt 16 (s.cpu.sp.toNat + e.toInt))).setFlags
      { z := false, n := false
        h := decide (0xF < s.cpu.sp.toNat % 16 + e.toNat % 16)
        c := decide (0xFF < s.cpu.sp.toNat % 256 + e.toNat) }) := by
  rw [addSP, spPlusE_eq]

/-- Settles O18: each form's bytes and operation; the two sums are taken by their laws over the integers. -/
theorem wordArithmetic : Obligations.WordArithmetic := fun _ s =>
  ⟨fun rr hf => ⟨encode_of_pairForm hf rfl, (exec_of_form hf s).trans (addHL_eq rr s)⟩,
    fun _ hf => ⟨encode_of_pairForm hf rfl, exec_of_form hf s⟩,
    fun _ hf => ⟨encode_of_pairForm hf rfl, exec_of_form hf s⟩,
    fun e hf => ⟨encode_of_form hf, (exec_of_form hf s).trans (addSP_eq e s)⟩⟩

end Sys2Proof.Machine
end

section
/-! PROOF. Rotates, shifts and single bits (44_rotate_shift_bit.md): the functions of R210 by doubling and halving, what each shared
operation answers where its accesses raise no fault, then form by form. -/

namespace Sys2Proof.Machine

/-! The functions of R210. -/

theorem getLsbD_seven (v : Byte) : v.getLsbD 7 = decide (128 ≤ v.toNat) := BitVec.msb_eq_decide v

theorem getLsbD_zero (v : Byte) : v.getLsbD 0 = decide (v.toNat % 2 = 1) := Nat.testBit_zero v.toNat

theorem rotOp_snd (k : RotOp) (v : Byte) (carry : Bool) : (rotOp k v carry).2 = rotOut k v := by
  cases k
  case rlc | rl | sla => exact getLsbD_seven v
  case rrc | rr | sra | srl => exact getLsbD_zero v
  case swap => rfl

/-- A result is two fields of the byte put together: as a number their sum, once the remainders that change nothing are dropped. -/
theorem rotOp_fst (k : RotOp) (v : Byte) (carry : Bool) : (rotOp k v carry).1 = rotValue k v carry := by
  apply BitVec.eq_of_toNat_eq
  have hc := carry.toNat_lt
  cases k <;>
    simp (disch := omega) only [rotOp, rotValue, toNat_append_eq_mul_add, BitVec.extractLsb'_toNat, flagBit_toNat,
      BitVec.toNat_ofNat, Nat.shiftRight_eq_div_pow, Nat.reducePow, Nat.div_one, Nat.mod_eq_of_lt] <;>
    omega

theorem rotOp_eq (k : RotOp) (v : Byte) (carry : Bool) : rotOp k v carry = (rotValue k v carry, rotOut k v) :=
  Prod.ext (rotOp_fst k v carry) (rotOp_snd k v carry)

theorem rotate_eq (k : RotOp) (v : Byte) (f : Flags) : rotate k v f = (rotValue k v f.c, rotResultFlags k v f.c) := by
  rw [rotate, rotOp_eq]
  rfl

/-- A rotate of `A` clears `Z` (R210). -/
theorem rotateA_eq (k : RotOp) (s : State) :
    rotateA k s = .next ((s.setReg .a (rotValue k (s.reg .a) s.cpu.flags.c)).setFlags
      ⟨false, false, false, rotOut k (s.reg .a)⟩) := by
  rw [rotateA, rotOp_eq]
  rfl

/-! `BIT`, `RES` and `SET` on `(HL)` (R232, R234, R236). -/

section
variable {s : State} (h : s.dmaSafe = true) (ha : s.supported (s.pair .hl) = true)
include h ha

/-- The test reads after one tick, which leaves the carry. -/
theorem testBit_atHL_done (b : BitVec 3) :
    testBit b .atHL s =
      .next (s.tick.setFlags ⟨!(s.tick.busByte (s.pair .hl)).getLsbD b.toNat, false, true, s.cpu.flags.c⟩) := by
  rw [testBit, readR8, readByte_done h ha, Flow.bind_done, tick_cpu]
  rfl

/-- The byte at `HL` read after one tick and written after a second, the flags as they were. -/
theorem updateByte_atHL_done (f : Byte → Byte) :
    ((readR8 .atHL s).bind fun v s => writeR8 .atHL (f v) s).outcome =
      .next (s.tick.tick.busWrite (s.pair .hl) (f (s.tick.busByte (s.pair .hl)))) := by
  rw [readR8, readByte_done h ha, Flow.bind_done, writeR8, tick_pair,
    writeByte_done _ (tick_dmaSafe h) ((tick_supported s _).trans ha), Flow.outcome_done]

end

/-! The statements. -/

/-- Settles O20: the functions of R210 between the read and the write of the operand. -/
theorem rotatesAndShifts : Obligations.RotatesAndShifts := by
  intro i s k
  refine ⟨fun r hf => ⟨encode_of_form hf, ?_⟩, fun hf h ha => ⟨encode_of_form hf, ?_⟩⟩
  · rw [exec_of_form hf, execForm, rotate8, modify8_reg, rotate_eq]
  · rw [exec_of_form hf, execForm, rotate8, modify8_atHL_done h ha, rotate_eq]

/-- Settles O21: a test writes no operand, a reset or set bit no flag; the mask of a bit is a power of two. -/
theorem bitOperations : Obligations.BitOperations := fun _ s b =>
  ⟨fun _ hf => ⟨encode_of_form hf, exec_of_form hf s⟩,
    fun _ hf => ⟨encode_of_form hf, exec_of_form hf s⟩,
    fun _ hf => ⟨encode_of_form hf, exec_of_form hf s⟩,
    fun h ha =>
      ⟨fun hf => ⟨encode_of_form hf, (exec_of_form hf s).trans (testBit_atHL_done h ha b)⟩,
        fun hf => ⟨encode_of_form hf, (exec_of_form hf s).trans (updateByte_atHL_done h ha (· &&& ~~~ bitMask b))⟩,
        fun hf => ⟨encode_of_form hf, (exec_of_form hf s).trans (updateByte_atHL_done h ha (· ||| bitMask b))⟩⟩⟩

/-- Settles O19: the functions of R210 on `A`. -/
theorem rotatesOfA : Obligations.RotatesOfA := fun _ s =>
  ⟨fun hf => ⟨encode_of_form hf, (exec_of_form hf s).trans (rotateA_eq .rlc s)⟩,
    fun hf => ⟨encode_of_form hf, (exec_of_form hf s).trans (rotateA_eq .rrc s)⟩,
    fun hf => ⟨encode_of_form hf, (exec_of_form hf s).trans (rotateA_eq .rl s)⟩,
    fun hf => ⟨encode_of_form hf, (exec_of_form hf s).trans (rotateA_eq .rr s)⟩⟩

end Sys2Proof.Machine
end

section
/-! PROOF. Calls, restarts and returns (45_control.md): the bytes of the forms with a condition, what each shared operation answers
where the accesses of its push or pop raise no fault, then form by form. -/

namespace Sys2Proof.Machine

/-! The encodings with a condition in the opcode (R102). -/

theorem encodeForm_callCC (cc : Cond) (nn : Word) :
    encodeForm (.callCC cc nn) = [0b110#3 ++ cc.code ++ 0b100#3, lo nn, hi nn] := by
  cases cc <;> rfl

theorem encodeForm_retCC (cc : Cond) : encodeForm (.retCC cc) = [0b110#3 ++ cc.code ++ 0b000#3] := by
  cases cc <;> rfl

/-! The operations. -/

/-- The target of a restart over the integers (R250). -/
theorem eight_mul_setWidth (n : BitVec 3) : 8 * n.setWidth 16 = BitVec.ofNat 16 (8 * n.toNat) := by
  rw [BitVec.ofNat_mul, BitVec.ofNat_toNat]
  rfl

section
variable {s : State} {cc : Cond}

theorem callIf_of_not_holds (hcc : s.cpu.holds cc = false) (nn : Word) : callIf cc nn s = .next s :=
  if_neg (Bool.eq_false_iff.mp hcc)

theorem callIf_of_holds (hcc : s.cpu.holds cc = true) (nn : Word) : callIf cc nn s = call nn s := if_pos hcc

theorem returnIf_of_not_holds (hcc : s.cpu.holds cc = false) : returnIf cc s = .next s :=
  if_neg (Bool.eq_false_iff.mp hcc)

theorem returnIf_of_holds (hcc : s.cpu.holds cc = true) : returnIf cc s = ret s := if_pos hcc

end

section
variable {s : State} (h : s.dmaSafe = true)
include h

theorem call_done (nn : Word) (ha : s.supported (s.cpu.sp - 2) = true) (hb : s.supported (s.cpu.sp - 1) = true)
    (hm : (afterPushLow s.cpu.pc s).dmaSafe = true) :
    call nn s =
      .next (((afterPushLow s.cpu.pc s).tick.busWrite (s.cpu.sp - 1) (hi s.cpu.pc)).setPc nn) := by
  rw [call, pushWord_done _ h ha hb hm, Flow.bind_done, Flow.outcome_done]

theorem returnWord_done (ha : s.supported s.cpu.sp = true) (hb : s.supported (s.cpu.sp + 1) = true) :
    returnWord s = .done () ((s.tick.tick.setSp (s.cpu.sp + 2)).setPc
      (word (s.tick.tick.busByte (s.cpu.sp + 1)) (s.tick.busByte s.cpu.sp))) := by
  rw [returnWord, popWord_done h ha hb, Flow.bind_done]

end

/-! The statements. -/

/-- Settles O23: a call that is taken, and a restart, is the push of `pc` followed by the jump; one not taken makes no access. -/
theorem calls : Obligations.Calls := by
  intro i s
  refine ⟨fun cc nn hf => ⟨(encode_of_form hf).trans (encodeForm_callCC cc nn), fun hcc => ?_⟩, fun h ha hb hm => ?_⟩
  · exact (exec_of_form hf s).trans (callIf_of_not_holds hcc nn)
  have hcall (nn : Word) := call_done h nn ha hb hm
  refine ⟨fun nn hf => ⟨encode_of_form hf, ?_⟩, fun cc nn hf hcc => ?_, fun n hf => ⟨encode_of_form hf, ?_⟩⟩
  · exact (exec_of_form hf s).trans (hcall nn)
  · exact (exec_of_form hf s).trans ((callIf_of_holds hcc nn).trans (hcall nn))
  · rw [exec_of_form hf, execForm, restart, eight_mul_setWidth]
    exact hcall _

/-- Settles O24: a return that is taken is the pop followed by the jump; one not taken makes no access. -/
theorem returns : Obligations.Returns := by
  intro i s
  refine ⟨fun cc hf => ⟨(encode_of_form hf).trans (encodeForm_retCC cc), fun hcc => ?_⟩, fun h ha hb => ?_⟩
  · exact (exec_of_form hf s).trans (returnIf_of_not_holds hcc)
  have hret := returnWord_done h ha hb
  refine ⟨fun hf => ⟨encode_of_form hf, ?_⟩, fun cc hf hcc => ?_, fun hf => ⟨encode_of_form hf, ?_⟩⟩
  · rw [exec_of_form hf, execForm, ret, hret, Flow.outcome_done]
  · rw [exec_of_form hf, execForm, returnIf_of_holds hcc, ret, hret, Flow.outcome_done]
  · rw [exec_of_form hf, execForm, reti, returnInterruptWord, hret, Flow.bind_done, Flow.outcome_done]

end Sys2Proof.Machine
end

section
/-! PROOF. System instructions, `PREFIX CB` and the undefined opcodes (46_misc_system.md): `STOP` by its policy, the eleven undefined
bytes in the map and among the forms, the row `PREFIX CB`, then the step after `EI`. -/

namespace Sys2Proof.Machine

/-! The system instructions (R260 to R264). -/

section
variable {s : State}

theorem stopCpu_of_stop (h : s.params.stopPolicy = .stop) (n : Byte) : stopCpu n s = .next (s.setStopped true) := by
  rw [stopCpu, h]

theorem stopCpu_of_fault (h : s.params.stopPolicy = .fault) (n : Byte) :
    stopCpu n s = .next (s.setFault (some (.undefinedOpcode .standard 0x10 s.cpu.snapshot))) := by
  rw [stopCpu, h]
  rfl

end

/-- Settles O25: no access is made; each form's bytes and operation are as its rule prints them, `STOP` by its policy. -/
theorem systemInstructions : Obligations.SystemInstructions := fun _ s =>
  ⟨fun hf => ⟨encode_of_form hf, exec_of_form hf s⟩,
    fun hf => ⟨encode_of_form hf, exec_of_form hf s⟩,
    fun n hf => ⟨encode_of_form hf, fun hp => (exec_of_form hf s).trans (stopCpu_of_stop hp n),
      fun hp => (exec_of_form hf s).trans (stopCpu_of_fault hp n)⟩,
    fun hf => ⟨encode_of_form hf, exec_of_form hf s⟩,
    fun hf => ⟨encode_of_form hf, exec_of_form hf s⟩⟩

/-! The undefined opcodes (R266). -/

/-- The opcodes of the standard space that have no instruction (R110, R111). -/
def unassignedOpcodes : List Byte := [0xD3, 0xDB, 0xDD, 0xE3, 0xE4, 0xEB, 0xEC, 0xED, 0xF4, 0xFC, 0xFD]

/-- The map of R111 at these opcodes. -/
theorem decodeStandard_unassigned : ∀ op ∈ unassignedOpcodes,
    op ≠ prefixByte ∧ instrLength op = 1 ∧ (decodeStandard op 0 0).form = .undefined op := by decide

/-- The eleven rows without an instruction are the only ones of the form. -/
theorem mem_unassignedOpcodes_of_form {i : Instr} {op : Byte} (h : i.form = .undefined op) : op ∈ unassignedOpcodes := by
  cases i
  case undefined_D3 | undefined_DB | undefined_DD | undefined_E3 | undefined_E4 | undefined_EB | undefined_EC
      | undefined_ED | undefined_F4 | undefined_FC | undefined_FD =>
    cases h
    decide
  all_goals cases h

/-- Settles O26: the map gives the eleven bytes the form, no other row has it, and its operation is the raise. -/
theorem undefinedOpcodes : Obligations.UndefinedOpcodes := by
  refine fun op => ⟨fun hop => ?_, fun i hf => ⟨mem_unassignedOpcodes_of_form hf, exec_of_form hf⟩⟩
  obtain ⟨hp, hl, hf⟩ := decodeStandard_unassigned op hop
  exact ⟨_, decode_of_mapEntry (.one hp hl) [], hf⟩

/-! `PREFIX CB` (R265). -/

/-- The row `PREFIX CB` dispatches by the fields of its second byte, and the map of R112 agrees with the fields. -/
theorem exec_prefix_CB (op2 : Byte) (s : State) : exec (.prefix_CB op2) s = exec (decodeExtended op2) s :=
  calc exec (.prefix_CB op2) s = extended op2 s := rfl
    _ = execForm (extendedForm op2) s := extended_eq op2 s
    _ = exec (decodeExtended op2) s := (exec_of_form (decodeExtended_form op2) s).symm

/-- Settles O27: the byte pair is the map's entry, and every instruction answers a next state. -/
theorem prefixDispatches : Obligations.PrefixDispatches := by
  intro op2 s
  obtain ⟨t, ht, _⟩ := exec_next (decodeExtended op2) s
  exact ⟨decode_of_mapEntry (.extended op2) [], t, ht, (exec_prefix_CB op2 s).trans ht⟩

/-! The step after `EI` (R264, R270). -/

/-- The end of a step that has fetched (R270 phase (d)). -/
def runFetched : Flow Instr → Result
  | .raised t => .next t
  | .done i t => exec i t

/-- A step that services nothing and does not idle fetches and runs one instruction, the queued enable committed (R270). -/
theorem step_eq_runFetched {s : State} (hp : s.params.acceptable = true) (hf : s.fault = none)
    (hs : s.cpu.stopped = false) (hservice : s.cpu.ime = true → s.irq.ie &&& s.irq.if_ = 0)
    (hidle : s.cpu.halted = true → s.irq.ie &&& s.irq.if_ ≠ 0) :
    step s = runFetched (fetch (s.setCpu
      { s.cpu with ime := s.cpu.ime || s.cpu.eiPending, eiPending := false, halted := false })) := by
  rw [← wake_commitEnable]
  simp only [step, hp, not_asleep hf hs, pendingService_none hservice, commitEnable_not_idles hidle, Bool.false_eq_true,
    Bool.true_eq_false, if_false]
  cases fetch (wake (commitEnable s)) <;> rfl

/-- Settles O54: with the enable still clear nothing is serviced, with the halt clear nothing idles; the commit comes between. -/
theorem enableIsDelayed : Obligations.EnableIsDelayed := by
  intro s hp hf hs hh hime
  let t := s.setEiPending true
  have hcpu : ({ s.cpu with ime := s.cpu.ime || true, eiPending := false, halted := false } : Cpu) =
      { s.cpu with ime := true, eiPending := false } := by simp [hh]
  have hcommit : t.setCpu { t.cpu with ime := t.cpu.ime || t.cpu.eiPending, eiPending := false, halted := false } =
      s.setCpu { s.cpu with ime := true, eiPending := false } := congrArg s.setCpu hcpu
  have hservice : t.cpu.ime = true → t.irq.ie &&& t.irq.if_ = 0 := fun h => absurd (hime.symm.trans h) (by decide)
  have hidle : t.cpu.halted = true → t.irq.ie &&& t.irq.if_ ≠ 0 := fun h => absurd (hh.symm.trans h) (by decide)
  refine ⟨t, rfl, hime, (step_eq_runFetched (s := t) hp hf hs hservice hidle).trans ?_⟩
  rw [hcommit]
  cases fetch (s.setCpu { s.cpu with ime := true, eiPending := false }) <;> rfl

end Sys2Proof.Machine
end

section
/-! PROOF. Interrupts and the step (60_exceptions.md): the acknowledge with and without a request, its service, and the phases of a
step (R270) one by one, each from what its shared operation answers where no fault is raised. -/

namespace Sys2Proof.Machine

/-! The acknowledge (R283). -/

theorem Source.bit_lt (i : Source) : i.bit < 5 := by cases i <;> decide

theorem ackInterrupt_none {s : State}
    (h : ∀ j : Nat, j < 5 → (s.irq.ie.getLsbD j && s.irq.if_.getLsbD j) = false) : ackInterrupt s = none := by
  have hr : s.requested = none := List.find?_eq_none.mpr fun i _ => by
    rw [requests_getLsbD, h i.bit (Source.bit_lt i)]
    decide
  rw [ackInterrupt, hr, Option.map_none]

/-- Settles O49: the sources stand in the order of their bits, so the first one found is the least. -/
theorem acknowledgePriority : Obligations.AcknowledgePriority := fun _ =>
  ⟨ackInterrupt_none, fun _ hn hie hif hleast => ackInterrupt_least hn hie hif hleast⟩

/-! The service (R285). -/

theorem serviceInterrupt_done {s t : State} (v : Word) (h : pushWord s.cpu.pc (servicing s) = .done () t) :
    (serviceInterrupt v s).outcome = .next (t.setPc v) := by
  have hbind : serviceInterrupt v s = (pushWord s.cpu.pc (servicing s)).bind fun _ t => .done () (t.setPc v) := rfl
  rw [hbind, h, Flow.bind_done, Flow.outcome_done]

/-- Settles O50: the step is the service of the acknowledged source, a push followed by the jump. -/
theorem interruptService : Obligations.InterruptService := by
  intro s i hp hf hs hime hi hie hif hleast hd ha hb t hm
  have hack := (pendingService_enabled hime).trans (ackInterrupt_least hi hie hif hleast)
  rw [step_of_pendingService hp hf hs hack]
  exact serviceInterrupt_done _ (pushWord_done _ hd ha hb hm)

/-! An instruction that is fetched (R104, R105, R270 phase (d)). -/

/-- Settles O29: an instruction's effect, whatever its form, is a next state. -/
theorem everyInstructionAnswersNext : Obligations.EveryInstructionAnswersNext := fun i s =>
  (exec_next i s).imp fun _ h => h.1

/-- The bytes at `pc` and after it, each read after its own tick, are those of `front`. -/
def ReadsAtPc (s : State) (front : List Byte) : Prop :=
  ∀ k : Nat, k < front.length → s.supported (s.cpu.pc + BitVec.ofNat 16 k) = true ∧
    (s.ticks (k + 1)).busByte (s.cpu.pc + BitVec.ofNat 16 k) = front.getD k 0

theorem imm8_of_readsAtPc {s : State} {front : List Byte} (h : ReadsAtPc s front) (hd : s.dmaSafe = true) {k : Nat}
    (hk : k < front.length) : imm8 (fetching s k) = .done (front.getD k 0) (fetching s (k + 1)) := by
  obtain ⟨ha, hb⟩ := h k hk
  rw [imm8_fetching k hd ha, hb]

/-- A fetch over the bytes of an entry of the opcode maps answers its instruction, `pc` past the bytes. -/
theorem fetch_of_mapEntry {s : State} {front : List Byte} {i : Instr} (entry : MapEntry front i) (h : ReadsAtPc s front)
    (hd : s.dmaSafe = true) : fetch s = .done i (fetching s front.length) := by
  have hfirst (h0 : 0 < front.length) : imm8 s = .done (front.getD 0 0) (fetching s 1) := by
    simpa only [fetching_zero] using imm8_of_readsAtPc h hd h0
  rw [fetch]
  cases entry with
  | extended op2 => simp [hfirst, imm8_of_readsAtPc h hd]
  | one hp hl => simp [hfirst, hp, hl]
  | two b1 hp hl => simp [hfirst, imm8_of_readsAtPc h hd, hp, hl]
  | three b1 b2 hp hl => simp [hfirst, imm8_of_readsAtPc h hd, hp, hl]

/-- Settles O51: the bytes that decode are an entry of the maps, and the fetch answers the instruction of the entry it reads. -/
theorem stepRunsDecoded : Obligations.StepRunsDecoded := by
  intro s i b0 b1 b2 rest hp hf hs hservice hidle hd u n hdec hread
  obtain ⟨front, entry, happ⟩ := mapEntry_of_decode hdec
  have hn : front.length = n := by
    have hlen : front.length + rest.length = 3 := by rw [← List.length_append, happ]; rfl
    exact Nat.eq_sub_of_add_eq hlen
  have hu : ReadsAtPc u front := fun k hk => by
    obtain ⟨ha, hb⟩ := hread k (hn ▸ hk)
    rw [← happ, List.getD_eq_getElem?_getD, List.getElem?_append_left hk, ← List.getD_eq_getElem?_getD] at hb
    exact ⟨ha, hb⟩
  have hfetch : fetch u = .done i (fetching u n) := hn ▸ fetch_of_mapEntry entry hu hd
  rw [step_eq_runFetched hp hf hs hservice hidle]
  exact congrArg runFetched hfetch

/-! The steps that run no instruction (R270 phases (0) and (c)). -/

theorem asleep_iff (s : State) : s.asleep = true ↔ s.fault ≠ none ∨ s.cpu.stopped = true := by
  rw [State.asleep, Bool.or_eq_true, Option.isSome_iff_ne_none]

theorem step_of_asleep {s : State} (hp : s.params.acceptable = true) (h : s.asleep = true) : step s = .next s := by
  simp only [step, hp, h, Bool.true_eq_false, if_false, if_true]

/-- Phase (b) at once (R270). -/
theorem commitEnable_eq (s : State) :
    commitEnable s = s.setCpu { s.cpu with ime := s.cpu.ime || s.cpu.eiPending, eiPending := false } := by
  unfold commitEnable
  cases hk : s.cpu.eiPending
  · have hcpu : ({ s.cpu with ime := s.cpu.ime || false, eiPending := false } : Cpu) = s.cpu := by
      rw [Bool.or_false, ← hk]
    rw [hcpu]
    rfl
  · rw [Bool.or_true]
    rfl

/-- Phase (c): a halted machine without an enabled request idles (R261). -/
theorem commitEnable_idles {s : State} (hh : s.cpu.halted = true) (h : s.irq.ie &&& s.irq.if_ = 0) :
    (commitEnable s).idles = true := by
  rw [State.idles, commitEnable_requests, commitEnable_halted, hh, State.requests, h]
  rfl

theorem step_of_idle {s : State} (hp : s.params.acceptable = true) (hf : s.fault = none) (hs : s.cpu.stopped = false)
    (hh : s.cpu.halted = true) (h : s.irq.ie &&& s.irq.if_ = 0) : step s = .next (commitEnable s).tick := by
  simp only [step, hp, not_asleep hf hs, pendingService_none fun _ => h, commitEnable_idles hh h, Bool.false_eq_true,
    Bool.true_eq_false, if_false, if_true]
  rfl

/-- Settles O52: phase (0) ends the step of a faulted or stopped machine, phase (c) that of an idle one. -/
theorem sleepAndIdleSteps : Obligations.SleepAndIdleSteps := fun s hp =>
  ⟨fun h => step_of_asleep hp ((asleep_iff s).mpr h),
    fun hf hs hh h => commitEnable_eq s ▸ step_of_idle hp hf hs hh h⟩

end Sys2Proof.Machine
end

section
/-! PROOF. Words of the encoding (30_encoding.md), and the button events (R326). -/

namespace Sys2Proof.Machine

/-- Settles O4: each word is read by the opcode maps. -/
theorem someWordsDecode : Obligations.SomeWordsDecode :=
  ⟨rfl, rfl, rfl, rfl, rfl, rfl, rfl, rfl, rfl, rfl, rfl, rfl⟩

/-! The button events. -/

theorem buttonDown_held {s : State} {k : Button} (h : s.joypad.pressed.getLsbD k.bit = true) :
    buttonDown k s = s.setStopped false :=
  if_pos h

theorem buttonDown_released {s : State} {k : Button} (h : s.joypad.pressed.getLsbD k.bit = false) :
    buttonDown k s = raiseInterrupt .joypad
      ((s.setStopped false).setJoypad { s.joypad with pressed := s.joypad.pressed ||| k.mask }) :=
  if_neg (Bool.eq_false_iff.mp h)

/-- A button's mask has its own bit only (R37). -/
theorem Button.mask_getLsbD (k : Button) {j : Nat} (hj : j < 8) : k.mask.getLsbD j = decide (j = k.bit) := by
  rw [Button.mask, ← BitVec.twoPow_eq, BitVec.getLsbD_twoPow]
  by_cases h : j = k.bit
  · simp [← h, hj]
  · simp [h, Ne.symm h]

/-- Settles O53: a press by whether the button was held; a release masks its bit. -/
theorem buttonEvents : Obligations.ButtonEvents := by
  intro s k
  refine ⟨buttonDown_held, buttonDown_released, fun j hj => ?_, rfl, rfl, rfl⟩
  rw [buttonUp, State.setJoypad_joypad, BitVec.getLsbD_and, BitVec.getLsbD_not, Button.mask_getLsbD k hj, decide_eq_true hj,
    Bool.true_and, decide_not]

end Sys2Proof.Machine
end

section
/-! PROOF. The timer (R310 to R312): when a tick counts, what each tick does to the timer, and what any number of ticks does over
which `tima` does not count. -/

namespace Sys2Proof.Machine

/-! One tick. -/

/-- The number of ticks between two counts of `tima`, by the clock-select (R311). -/
def Timer.period (t : Timer) : Nat := [255, 3, 15, 63].getD (t.tac.toNat % 4) 0 + 1

/-- The period is a power of two, and the mask of the clock-select has that many bits set. -/
theorem timer_period_cases (t : Timer) :
    ∃ k, k ≤ 8 ∧ t.period = 2 ^ k ∧ (timerMask (t.tac.extractLsb' 0 2)).toNat = 2 ^ k - 1 := by
  have table : ∀ tac : BitVec 3, ∃ k, k < 9 ∧ [255, 3, 15, 63].getD (tac.toNat % 4) 0 + 1 = 2 ^ k ∧
      (timerMask (tac.extractLsb' 0 2)).toNat = 2 ^ k - 1 := by decide
  obtain ⟨k, hk, hp, hm⟩ := table t.tac
  exact ⟨k, by omega, hp, hm⟩

theorem timer_enabled_iff (tac : BitVec 3) : tac.getLsbD 2 = true ↔ 4 ≤ tac.toNat := by
  revert tac
  decide

/-- The mask test of R311 as a remainder. -/
theorem timer_due_iff (t : Timer) : t.due = true ↔ 4 ≤ t.tac.toNat ∧ t.counter.toNat % t.period = 0 := by
  obtain ⟨k, _, hp, hm⟩ := timer_period_cases t
  rw [Timer.due, Bool.and_eq_true, timer_enabled_iff, beq_iff_eq, ← BitVec.toNat_inj, BitVec.toNat_and, hm, hp,
    Nat.and_two_pow_sub_one_eq_mod]
  rfl

section
variable {s : State}

theorem timerTick_not_due (h : s.timer.count.due = false) : timerTick s = s.setTimer s.timer.count :=
  if_neg (Bool.eq_false_iff.mp h)

theorem timerTick_counts (h : s.timer.count.due = true) (ht : s.timer.tima ≠ 0xFF) :
    timerTick s = s.setTimer { s.timer.count with tima := s.timer.tima + 1 } :=
  (if_pos h).trans (if_neg ht)

theorem timerTick_reloads (h : s.timer.count.due = true) (ht : s.timer.tima = 0xFF) :
    timerTick s = raiseInterrupt .timer (s.setTimer { s.timer.count with tima := s.timer.tma }) :=
  (if_pos h).trans (if_pos ht)

end

/-- Settles O40: the three cases of a tick; the mask test is the remainder by the period. -/
theorem timerTickRule : Obligations.TimerTickRule := by
  intro s n mask due
  have hdue : s.timer.count.due = true ↔ due := timer_due_iff s.timer.count
  exact ⟨fun h => timerTick_not_due (Bool.eq_false_iff.mpr (mt hdue.mp h)), fun h => timerTick_counts (hdue.mpr h),
    fun h => timerTick_reloads (hdue.mpr h)⟩

/-! A tick of the machine, as the timer sees it. -/

theorem ticks_add (s : State) (m n : Nat) : s.ticks (m + n) = (s.ticks m).ticks n := by
  induction n with
  | zero => rfl
  | succ n ih => rw [← Nat.add_assoc, ← ticks_tick, ih, ticks_tick]

/-- A tick that completes is the timer's, after the other two units' have left the timer alone (R61). -/
theorem advance_timerTick {s t : State} (h : advance s = .done () t) : ∃ u, u.timer = s.timer ∧ t = timerTick u := by
  rcases tick_cases s with ⟨v, hdma, hadvance, htick⟩ | ⟨_, hadvance⟩ <;> rw [hadvance] at h
  · injection h with _ h
    have hv : v.timer = s.timer := by
      have only := dmaTick_dmaOnly s
      rw [hdma] at only
      exact only.timer
    exact ⟨ppuTick v, (ppuTick_videoFrame v).timer.trans hv, h ▸ htick⟩
  · cases h

/-- Whether `tima` counts or not, the free-running counter does (R310). -/
theorem advance_counter {s t : State} (h : advance s = .done () t) : t.timer.counter = s.timer.counter + 1 := by
  obtain ⟨u, hu, rfl⟩ := advance_timerTick h
  rw [← hu]
  rcases timerTick_cases u with e | e | e <;> rw [e] <;> rfl

/-- The free-running count, after `n` others (R311). -/
theorem count_after (t : Timer) (n : Nat) :
    Timer.count { t with counter := t.counter + BitVec.ofNat 16 n } =
      { t with counter := t.counter + BitVec.ofNat 16 (n + 1) } := by
  rw [Timer.count, BitVec.ofNat_add, ← BitVec.add_assoc]
  rfl

section
variable {s : State} (h : s.dmaSafe = true)
include h

theorem tick_timer_not_due (hd : s.timer.count.due = false) : s.tick.timer = s.timer.count := by
  obtain ⟨u, hu, e⟩ := advance_timerTick (advance_of_safe h)
  rw [← hu] at hd ⊢
  rw [e, timerTick_not_due hd]
  rfl

theorem tick_timer_counts (hd : s.timer.count.due = true) (ht : s.timer.tima ≠ 0xFF) :
    s.tick.timer = { s.timer.count with tima := s.timer.tima + 1 } := by
  obtain ⟨u, hu, e⟩ := advance_timerTick (advance_of_safe h)
  rw [← hu] at hd ht ⊢
  rw [e, timerTick_counts hd ht]
  rfl

theorem tick_timer_reloads (hd : s.timer.count.due = true) (ht : s.timer.tima = 0xFF) :
    s.tick.timer = { s.timer.count with tima := s.timer.tma } ∧ s.tick.irq.if_.getLsbD 2 = true := by
  obtain ⟨u, hu, e⟩ := advance_timerTick (advance_of_safe h)
  rw [← hu] at hd ht ⊢
  rw [e, timerTick_reloads hd ht]
  refine ⟨rfl, ?_⟩
  rw [raiseInterrupt, State.setIrq_irq, BitVec.getLsbD_or, show Source.mask .timer = 4#5 from rfl]
  exact Bool.or_true _

theorem ticks_counter (n : Nat) : (s.ticks n).timer.counter = s.timer.counter + BitVec.ofNat 16 n := by
  induction n with
  | zero => exact (BitVec.add_zero _).symm
  | succ n ih =>
    rw [← ticks_tick, advance_counter (advance_of_safe (ticks_dmaSafe h n)), ih, BitVec.add_assoc, BitVec.ofNat_add n 1]
    rfl

/-- Ticks over which no tick is due count only the free-running counter. -/
theorem ticks_timer_not_due (n : Nat) (hd : ∀ k < n, (s.timer.counter + BitVec.ofNat 16 (k + 1)).toNat % s.timer.period ≠ 0) :
    (s.ticks n).timer = { s.timer with counter := s.timer.counter + BitVec.ofNat 16 n } := by
  induction n with
  | zero => rw [show BitVec.ofNat 16 0 = 0#16 from rfl, BitVec.add_zero]; rfl
  | succ n ih =>
    have hn := ih fun k hk => hd k (by omega)
    have hc : (s.ticks n).timer.count = { s.timer with counter := s.timer.counter + BitVec.ofNat 16 (n + 1) } := by
      rw [hn, count_after]
    rw [← ticks_tick, tick_timer_not_due (ticks_dmaSafe h n), hc]
    rw [hc]
    exact Bool.eq_false_iff.mpr fun due => hd n (by omega) ((timer_due_iff _).mp due).2

end

theorem ticks_raisesClock (s : State) (n : Nat) : RaisesClock s (s.ticks n) := by
  induction n with
  | zero => exact .of_eq rfl
  | succ n ih => exact ticks_tick s n ▸ ih.trans (tick_raisesClock _)

/-! A period. -/

/-- The period divides the number of values of the counter, so that its wrap keeps the remainder. -/
theorem timer_add_mod (t : Timer) (n : Nat) :
    (t.counter + BitVec.ofNat 16 n).toNat % t.period = (t.counter.toNat % t.period + n) % t.period := by
  obtain ⟨k, hk, hp, _⟩ := timer_period_cases t
  have hdvd : t.period ∣ 2 ^ 16 := hp ▸ Nat.pow_dvd_pow 2 (by omega)
  rw [BitVec.toNat_add, BitVec.toNat_ofNat, Nat.add_mod_mod, Nat.mod_mod_of_dvd _ hdvd, Nat.mod_add_mod]

theorem timer_period_pos (t : Timer) : 0 < t.period := Nat.succ_pos _

theorem timer_period_congr {t u : Timer} (h : t.tac = u.tac) : t.period = u.period := by
  rw [Timer.period, Timer.period, h]

/-- Of the ticks of a period one is due, the one that completes the counter's remainder; none before or after it is. -/
theorem exists_due_tick {s : State} (h : s.dmaSafe = true) (hen : 4 ≤ s.timer.tac.toNat) :
    ∃ (u : State) (n : Nat), u.dmaSafe = true ∧ u.timer.count.due = true ∧ u.timer.tima = s.timer.tima ∧
      u.timer.tma = s.timer.tma ∧ s.ticks s.timer.period = u.tick.ticks n ∧
      (u.tick.ticks n).timer.tima = u.tick.timer.tima := by
  have hr : s.timer.counter.toNat % s.timer.period < s.timer.period := Nat.mod_lt _ (timer_period_pos _)
  generalize hrem : s.timer.counter.toNat % s.timer.period = r at hr
  let d := s.timer.period - 1 - r
  have hd : r + (d + 1) = s.timer.period := by omega
  have before : (s.ticks d).timer = { s.timer with counter := s.timer.counter + BitVec.ofNat 16 d } :=
    ticks_timer_not_due h d fun k hk => by
      rw [timer_add_mod, hrem, Nat.mod_eq_of_lt (by omega)]
      omega
  have hsafe := ticks_dmaSafe h d
  have counter : (s.ticks d).tick.timer.counter = s.timer.counter + BitVec.ofNat 16 (d + 1) := by
    rw [ticks_tick, ticks_counter h]
  have rem : (s.ticks d).tick.timer.counter.toNat % s.timer.period = 0 := by
    rw [counter, timer_add_mod, hrem, hd, Nat.mod_self]
  have tac : (s.ticks d).tick.timer.tac = s.timer.tac := by
    rw [(Timer.software_inj.mp (tick_keepsSoftware _).timer).2, before]
  have period := timer_period_congr tac
  have due : (s.ticks d).timer.count.due = true := by
    rw [before, count_after, timer_due_iff]
    exact ⟨hen, counter ▸ rem⟩
  have after := ticks_timer_not_due (tick_dmaSafe hsafe) r fun k hk => by
    rw [timer_add_mod, period, rem, Nat.zero_add, Nat.mod_eq_of_lt (by omega)]
    omega
  refine ⟨s.ticks d, r, hsafe, due, by rw [before], by rw [before], ?_, by rw [after]⟩
  rw [ticks_tick, ← ticks_add, Nat.add_comm, hd]

/-- `DIV` is the counter without its low six bits (R310), so that it counts once in 64 ticks. -/
theorem div_add_64 (c : Word) :
    BitVec.ofNat 8 ((c + BitVec.ofNat 16 64).toNat / 64) = BitVec.ofNat 8 (c.toNat / 64) + 1 := by
  apply BitVec.eq_of_toNat_eq
  rw [BitVec.toNat_add, BitVec.toNat_add, BitVec.toNat_ofNat, BitVec.toNat_ofNat, BitVec.toNat_ofNat,
    show (1 : Byte).toNat = 1 from rfl]
  omega

theorem busByte_div (s : State) : s.busByte 0xFF04 = BitVec.ofNat 8 (s.timer.counter.toNat / 64) :=
  (busByte_register s .div rfl).trans (readReg_div s)

/-- Settles O41: the one due tick of a period counts or reloads; `DIV` follows the counter. -/
theorem timerPeriod : Obligations.TimerPeriod := by
  intro s h hen mask
  obtain ⟨u, n, hu, due, tima, tma, hperiod, after⟩ := exists_due_tick h hen
  have hticks : s.ticks (mask + 1) = u.tick.ticks n := hperiod
  rw [hticks, after, ← tima, ← tma]
  refine ⟨?_, fun ht => ?_, ?_⟩
  · split
    · next ht => rw [(tick_timer_reloads hu due ht).1]
    · next ht => rw [tick_timer_counts hu due ht]
  · exact (ticks_raisesClock _ n).kept (tick_timer_reloads hu due ht).2
  · rw [busByte_div, busByte_div, ticks_counter h, div_add_64]

end Sys2Proof.Machine
end

section
/-! PROOF. The OAM DMA transfer (R318, R319): what one tick of an active transfer does, then the whole of it from a page below
`0xE0`, and the read that raises. -/

namespace Sys2Proof.Machine

/-! A page below `0xE0`. -/

/-- A transfer from such a page raises nothing (R318). -/
theorem dmaSafe_of_page {s : State} (hp : s.dma.src.toNat < 0xE0) : s.dmaSafe = true := by
  rw [State.dmaSafe, decide_eq_false (by omega : ¬ 0xE0 ≤ s.dma.src.toNat), Bool.false_and, Bool.not_false, Bool.or_true]

/-- Below `0xE000` a read depends on the cartridge, the boot overlay and memory only. -/
theorem busByte_congr {s t : State} {a : Word} (ha : a.toNat < 0xE000) (boot : t.bootActive = s.bootActive)
    (cart : t.cart = s.cart) (params : t.params = s.params) (mem : t.mem.read a = s.mem.read a) :
    t.busByte a = s.busByte a := by
  have hoverlaid : t.overlaid a = s.overlaid a := by rw [State.overlaid, State.overlaid, boot]
  have hboot : bootByte t a = bootByte s a := by rw [bootByte, bootByte, State.bootRom, State.bootRom, params]
  have hbank : cartReadBank1 t a = cartReadBank1 s a := by rw [cartReadBank1, cartReadBank1, params, cart, mem]
  have hram : cartReadRam t a = cartReadRam s a := by rw [cartReadRam, cartReadRam, params, cart]
  rw [State.busByte, State.busByte, hoverlaid, hboot, hbank, hram, mem]
  cases hr : regionOf a
  case oam => rw [regionOf_oam] at hr; omega
  case io => rw [regionOf_io] at hr; omega
  all_goals rfl

theorem page_toNat {page : Byte} (hp : page.toNat < 0xE0) (o : Byte) : (word page o).toNat < 0xE000 := by
  have := o.isLt
  rw [word_toNat]
  omega

/-! One tick. -/

/-- A tick of a transfer below offset 160 copies one byte (R318). -/
theorem tick_dma_copies {s : State} (ha : s.dma.active = true) (ho : s.dma.off.toNat < 160) (hp : s.dma.src.toNat < 0xE0) :
    s.tick.dma = ⟨s.dma.src, s.dma.off + 1, true⟩ ∧
      s.tick.mem = s.mem.write (oamBase + zext s.dma.off) (s.busByte (dmaAddress s)) := by
  have hbyte : (dmaNext s).busByte (dmaAddress s) = s.busByte (dmaAddress s) :=
    busByte_congr (page_toNat hp s.dma.off) rfl rfl rfl rfl
  let t := (dmaNext s).setMem (s.mem.write (oamBase + zext s.dma.off) (s.busByte (dmaAddress s)))
  have hstep : dmaTick s = .done () t := by
    rcases dmaTick_cases s with ⟨hi, _⟩ | ⟨_, hend, _⟩ | ⟨_, _, _, e⟩ | ⟨_, _, hs, _⟩
    · exact absurd (hi.symm.trans ha) (by decide)
    · omega
    · rw [e, hbyte]
    · exact absurd (hs.symm.trans (dmaAddress_supported ho ha (dmaSafe_of_page hp))) (by decide)
  have htick : s.tick = timerTick (ppuTick t) := by
    rw [State.tick, advance, hstep]
    rfl
  rw [htick]
  exact ⟨(clock_clockOnly t).dma.trans (congrArg (Dma.mk _ _) ha), (clock_clockOnly t).mem⟩

/-- The tick at offset 160 ends the transfer (R319). -/
theorem tick_dma_ends {s : State} (ho : 160 ≤ s.dma.off.toNat) : s.tick.dma.active = false := by
  have hstep : (dmaTick s).state.dma.active = false := by
    rcases dmaTick_cases s with ⟨hi, e⟩ | ⟨_, _, e⟩ | ⟨_, hlt, _⟩ | ⟨_, hlt, _⟩
    · rw [e]; exact hi
    · rw [e]; rfl
    · omega
    · omega
  rcases tick_eq s with e | e <;> rw [e]
  · exact hstep
  · rw [(clock_clockOnly _).dma, hstep]

/-! The whole transfer. -/

@[simp] theorem ticks_bootActive (s : State) (n : Nat) : (s.ticks n).bootActive = s.bootActive := by
  induction n generalizing s with
  | zero => rfl
  | succ n ih => rw [ticks_succ, ih, tick_bootActive]

@[simp] theorem ticks_cart (s : State) (n : Nat) : (s.ticks n).cart = s.cart := by
  induction n generalizing s with
  | zero => rfl
  | succ n ih => rw [ticks_succ, ih, tick_cart]

theorem ticks_fault {s : State} (h : s.dmaSafe = true) (n : Nat) : (s.ticks n).fault = s.fault := by
  induction n with
  | zero => rfl
  | succ n ih => rw [← ticks_tick, tick_fault (ticks_dmaSafe h n), ih]

/-- Ticks change memory in `oam` only (R318). -/
theorem ticks_mem (s : State) (n : Nat) {a : Word} (ha : regionOf a ≠ .oam) : (s.ticks n).mem.read a = s.mem.read a := by
  induction n with
  | zero => rfl
  | succ n ih => rw [← ticks_tick, tick_mem _ _ (.inr ha), ih]

theorem regionOf_ne_oam {a : Word} (ha : a.toNat < 0xFE00 ∨ 0xFEA0 ≤ a.toNat) : regionOf a ≠ .oam := by
  rw [ne_eq, regionOf_oam]
  omega

theorem toNat_ofNat_offset {i : Nat} (hi : i < 160) : (BitVec.ofNat 8 i).toNat = i := by
  rw [BitVec.toNat_ofNat]
  omega

/-- `oam[i]` on the bus (R34), by its number. -/
theorem oam_address_ofNat {i : Nat} (hi : i < 160) : oamBase + zext (BitVec.ofNat 8 i) = BitVec.ofNat 16 (0xFE00 + i) := by
  have hoff := toNat_ofNat_offset hi
  apply BitVec.eq_of_toNat_eq
  rw [oam_address (by rw [hoff]; exact hi), hoff, BitVec.toNat_ofNat]
  omega

theorem oam_address_ne {i j : Nat} (hi : i < 160) (hj : j < 160) (h : i ≠ j) :
    BitVec.ofNat 16 (0xFE00 + i) ≠ BitVec.ofNat 16 (0xFE00 + j) := by
  rw [ne_eq, ← BitVec.toNat_inj, BitVec.toNat_ofNat, BitVec.toNat_ofNat]
  omega

section
variable {s : State} {page : Byte} (hp : page.toNat < 0xE0)
include hp

/-- A byte of the page reads the same after any number of ticks: a transfer writes elsewhere. -/
theorem ticks_page_busByte (n : Nat) (o : Byte) : (s.ticks n).busByte (word page o) = s.busByte (word page o) := by
  have ha := page_toNat hp o
  exact busByte_congr ha (ticks_bootActive s n) (ticks_cart s n) (ticks_params s n)
    (ticks_mem s n (regionOf_ne_oam (.inl (by omega))))

/-- After `n` ticks the first `n` bytes of the page are in `oam` (R318). -/
theorem ticks_dma_copied (hs : s.dma = ⟨page, 0, true⟩) {n : Nat} (hn : n ≤ 160) :
    (s.ticks n).dma = ⟨page, BitVec.ofNat 8 n, true⟩ ∧
      ∀ i < n, (s.ticks n).mem.read (BitVec.ofNat 16 (0xFE00 + i)) = s.busByte (word page (BitVec.ofNat 8 i)) := by
  induction n with
  | zero => exact ⟨hs, nofun⟩
  | succ n ih =>
    obtain ⟨hdma, hmem⟩ := ih (by omega)
    obtain ⟨dma, mem⟩ := tick_dma_copies (s := s.ticks n) (by rw [hdma]) (by rw [hdma, toNat_ofNat_offset hn]; exact hn)
      (by rw [hdma]; exact hp)
    rw [dmaAddress, hdma, oam_address_ofNat hn, ticks_page_busByte hp] at mem
    rw [← ticks_tick, dma, mem, hdma, BitVec.ofNat_add n 1]
    refine ⟨rfl, fun i hi => ?_⟩
    by_cases hin : i = n
    · rw [hin, Memory.read_write_same]
    · rw [Memory.read_write_other _ _ (oam_address_ne (by omega) hn hin), hmem i (by omega)]

end

/-- Settles O42: the first 160 ticks copy a byte each, and the next ends the transfer. -/
theorem dmaTransfer : Obligations.DmaTransfer := by
  intro s page hp hs
  have hsafe : s.dmaSafe = true := dmaSafe_of_page (by rw [hs]; exact hp)
  obtain ⟨dma, mem⟩ := ticks_dma_copied hp hs (Nat.le_refl 160)
  refine ⟨mem, fun a ha => ticks_mem s 160 (regionOf_ne_oam ha), dma, ?_, ticks_fault hsafe 161⟩
  have hoff : 160 ≤ (s.ticks 160).dma.off.toNat := by
    rw [dma]
    exact Nat.le_refl 160
  rw [← ticks_tick]
  exact tick_dma_ends hoff

/-! The read that raises. -/

/-- The pages whose read raises (R318): the offset does not leave the unsupported region. -/
theorem dmaAddress_unsupported {s : State} (hu : s.params.unmappedPolicy = .fault) (hlo : 0xE0 ≤ s.dma.src.toNat)
    (hhi : s.dma.src.toNat ≤ 0xFD) : s.supported (dmaAddress s) = false := by
  have ho := s.dma.off.isLt
  refine (supported_eq_false_iff s _).mpr ⟨hu, (regionOf_unsupported _).mpr (.inl ?_)⟩
  rw [dmaAddress, word_toNat]
  omega

/-- Settles O43: the read raises, so that its tick is the raise alone. -/
theorem dmaFromUnsupportedPage : Obligations.DmaFromUnsupportedPage := by
  intro s ha ho hu hlo hhi
  have hraise : dmaTick s = .raised (raiseFault (.unsupportedAddress (dmaAddress s) .read) (dmaNext s)) := by
    rcases dmaTick_cases s with ⟨hi, _⟩ | ⟨_, hend, _⟩ | ⟨_, _, hs, _⟩ | ⟨_, _, _, e⟩
    · exact absurd (hi.symm.trans ha) (by decide)
    · omega
    · exact absurd (hs.symm.trans (dmaAddress_unsupported hu hlo hhi)) (by decide)
    · exact e
  have htick : s.tick = raiseFault (.unsupportedAddress (dmaAddress s) .read) (dmaNext s) := by
    rw [State.tick, advance, hraise]
    rfl
  rw [htick]
  exact ⟨rfl, rfl⟩

end Sys2Proof.Machine
end

section
/-! PROOF. The PPU's tick (R353 to R359): the count, each transition with its whole next state and the pending bits it raises, and from
them the length of a visible line (R360). -/

namespace Sys2Proof.Machine

/-! What the shared operations of a transition raise (R357, R358, R359). -/

/-- A pending bit raised under a condition (R281). -/
theorem raiseIf_eq (c : Bool) (i : Source) (s : State) :
    raiseIf c i s = s.setIrq { s.irq with if_ := s.irq.if_ ||| if c then i.mask else 0 } := by
  cases c
  · rw [if_neg (by decide), show (0 : BitVec 5) = 0#5 from rfl, BitVec.or_zero]
    rfl
  · rfl

/-- The pending bits with vblank's and video-STAT's raised under two conditions (R280). -/
def pendingVideo (pending : BitVec 5) (vblank stat : Bool) : BitVec 5 :=
  pending ||| (if vblank then 1 else 0) ||| (if stat then 2 else 0)

theorem pendingVideo_stat (pending : BitVec 5) (stat : Bool) :
    pendingVideo pending false stat = pending ||| if stat then 2 else 0 :=
  congrArg (· ||| if stat then 2 else 0) BitVec.or_zero

theorem pendingVideo_none (pending : BitVec 5) : pendingVideo pending false false = pending :=
  (pendingVideo_stat pending false).trans BitVec.or_zero

/-- Video-STAT is one bit, whether the comparison or the entry raises it. -/
theorem pendingVideo_twice (pending : BitVec 5) (vblank compare entry : Bool) :
    pendingVideo (pendingVideo pending false compare) vblank entry = pendingVideo pending vblank (compare || entry) := by
  have hstat : (if (compare || entry) = true then (2 : BitVec 5) else 0) =
      (if compare then 2 else 0) ||| (if entry then 2 else 0) := by
    cases compare <;> cases entry <;> rfl
  rw [pendingVideo_stat, pendingVideo, pendingVideo, hstat]
  ac_rfl

/-- An entry raises vblank and video-STAT (R357, R358). -/
theorem ppuEnter_eq (m : PpuMode) (s : State) :
    ppuEnter m s = (s.setPpu { s.ppu with mode := m, modeCtr := budget s.params m }).setIrq
      { s.irq with if_ := pendingVideo s.irq.if_ (m == .vblank) (statEnabled s.ppu m) } := by
  rw [ppuEnter, raiseIf_eq, raiseIf_eq]
  rfl

/-- Whether a scanline advance to `line` raises video-STAT (R359). -/
def compareRaises (p : Ppu) (line : Byte) : Bool := line == p.lyc && p.statEn.getLsbD 3

theorem setScanline_eq (y : Byte) (s : State) :
    setScanline y s = (s.setPpu { s.ppu with ly := y, lycFlag := y == s.ppu.lyc }).setIrq
      { s.irq with if_ := pendingVideo s.irq.if_ false (compareRaises s.ppu y) } := by
  rw [setScanline, lycCompare, raiseIf_eq, pendingVideo_stat]
  rfl

/-- An advance followed by an entry: what R359 and R357 raise, together. -/
theorem ppuEnter_setScanline (m : PpuMode) (y : Byte) (s : State) :
    ppuEnter m (setScanline y s) =
      (s.setPpu { s.ppu with ly := y, lycFlag := y == s.ppu.lyc, mode := m, modeCtr := budget s.params m }).setIrq
        { s.irq with if_ := pendingVideo s.irq.if_ (m == .vblank) (compareRaises s.ppu y || statEnabled s.ppu m) } := by
  rw [← pendingVideo_twice, setScanline_eq, ppuEnter_eq]
  cases m <;> rfl

/-! The tick, case by case. -/

theorem ppuTick_off {s : State} (h : s.ppu.lcdc.getLsbD 7 = false) : ppuTick s = s := if_pos h

section
variable {s : State} (hon : s.ppu.lcdc.getLsbD 7 = true)
include hon

theorem ppuTick_counts (hc : 2 ≤ s.ppu.modeCtr) : ppuTick s = ppuCountDown s := by
  rcases ppuTick_cases s with ⟨hoff, _⟩ | ⟨_, _, e⟩ | ⟨_, hz, _⟩
  · exact absurd (hoff.symm.trans hon) (by decide)
  · exact e
  · omega

theorem ppuTick_expires (hc : s.ppu.modeCtr = 1) : ppuTick s = ppuExpire (ppuCountDown s) := by
  rcases ppuTick_cases s with ⟨hoff, _⟩ | ⟨_, hnz, _⟩ | ⟨_, _, e⟩
  · exact absurd (hoff.symm.trans hon) (by decide)
  · omega
  · exact e

theorem ppuTick_oamScan (hc : s.ppu.modeCtr = 1) (hm : s.ppu.mode = .oamScan) :
    ppuTick s = s.setPpu { s.ppu with mode := .transfer, modeCtr := s.params.xferCycles } := by
  rw [ppuTick_expires hon hc, ppuExpire_oamScan (s := ppuCountDown s) hm, ppuEnter_eq]
  exact congrArg (fun pending => State.setIrq _ ⟨s.irq.ie, pending⟩) (pendingVideo_none s.irq.if_)

/-- The line is drawn before the count is used up or after: the renderer does not read the counter (R362). -/
theorem ppuTick_transfer (hc : s.ppu.modeCtr = 1) (hm : s.ppu.mode = .transfer) :
    ppuTick s = ((renderLine s).setPpu { s.ppu with mode := .hblank, modeCtr := s.params.hblankCycles }).setIrq
      { s.irq with if_ := pendingVideo s.irq.if_ false (s.ppu.statEn.getLsbD 0) } := by
  rw [ppuTick_expires hon hc, ppuExpire_transfer (s := ppuCountDown s) hm, ppuEnter_eq]
  rfl

theorem ppuTick_hblank_visible (hc : s.ppu.modeCtr = 1) (hm : s.ppu.mode = .hblank) (hl : s.ppu.ly.toNat < 143) :
    ppuTick s = (s.setPpu { s.ppu with
        ly := s.ppu.ly + 1, lycFlag := s.ppu.ly + 1 == s.ppu.lyc, mode := .oamScan, modeCtr := s.params.oamCycles }).setIrq
      { s.irq with
        if_ := pendingVideo s.irq.if_ false (compareRaises s.ppu (s.ppu.ly + 1) || s.ppu.statEn.getLsbD 2) } := by
  have hnext : (s.ppu.ly + 1).toNat < visibleLines := by
    rw [line_succ_toNat (by omega), visibleLines]
    omega
  rw [ppuTick_expires hon hc, ppuExpire_hblank (s := ppuCountDown s) hm]
  refine (if_pos hnext).trans ?_
  rw [ppuEnter_setScanline]
  rfl

theorem ppuTick_hblank_last (hc : s.ppu.modeCtr = 1) (hm : s.ppu.mode = .hblank) (hl : s.ppu.ly.toNat = 143) :
    ppuTick s = ((s.setPpu { s.ppu with
        ly := 144, lycFlag := (144 : Byte) == s.ppu.lyc, mode := .vblank, modeCtr := s.params.vblankLineCycles }).setSink
        { s.sink with vsyncs := s.sink.vsyncs + 1 }).setIrq
      { s.irq with if_ := pendingVideo s.irq.if_ true (compareRaises s.ppu 144 || s.ppu.statEn.getLsbD 1) } := by
  have hline : s.ppu.ly + 1 = 144 := by
    rw [BitVec.eq_of_toNat_eq (x := s.ppu.ly) (y := 143#8) hl]
    rfl
  have hlast : ¬ (s.ppu.ly + 1).toNat < visibleLines := by
    rw [hline]
    decide
  have hvsync : ppuEnter .vblank (vsync (setScanline (s.ppu.ly + 1) (ppuCountDown s))) =
      (ppuEnter .vblank (setScanline (s.ppu.ly + 1) (ppuCountDown s))).setSink
        { s.sink with vsyncs := s.sink.vsyncs + 1 } := by
    rw [ppuEnter_eq, ppuEnter_eq, setScanline_eq]
    rfl
  rw [ppuTick_expires hon hc, ppuExpire_hblank (s := ppuCountDown s) hm]
  refine (if_neg hlast).trans (hvsync.trans ?_)
  rw [ppuEnter_setScanline, hline]
  rfl

theorem ppuTick_vblank_line (hc : s.ppu.modeCtr = 1) (hm : s.ppu.mode = .vblank)
    (hl : s.ppu.ly.toNat + 1 < s.params.totalLines) :
    ppuTick s = (s.setPpu { s.ppu with
        ly := s.ppu.ly + 1, lycFlag := s.ppu.ly + 1 == s.ppu.lyc, modeCtr := s.params.vblankLineCycles }).setIrq
      { s.irq with if_ := pendingVideo s.irq.if_ false (compareRaises s.ppu (s.ppu.ly + 1)) } := by
  rw [ppuTick_expires hon hc, ppuExpire_vblank (s := ppuCountDown s) hm]
  refine (if_pos hl).trans ?_
  rw [setScanline_eq]
  rfl

theorem ppuTick_vblank_last (hc : s.ppu.modeCtr = 1) (hm : s.ppu.mode = .vblank)
    (hl : s.params.totalLines ≤ s.ppu.ly.toNat + 1) :
    ppuTick s = (s.setPpu { s.ppu with
        ly := 0, lycFlag := (0 : Byte) == s.ppu.lyc, mode := .oamScan, modeCtr := s.params.oamCycles }).setIrq
      { s.irq with if_ := pendingVideo s.irq.if_ false (compareRaises s.ppu 0 || s.ppu.statEn.getLsbD 2) } := by
  rw [ppuTick_expires hon hc, ppuExpire_vblank (s := ppuCountDown s) hm]
  refine (if_neg (Nat.not_lt.mpr hl)).trans ?_
  rw [ppuEnter_setScanline]
  rfl

end

/-- Settles O44: one lemma per transition. -/
theorem ppuTickRule : Obligations.PpuTickRule := fun _ =>
  ⟨ppuTick_off, ppuTick_counts, fun hon hc =>
    ⟨ppuTick_oamScan hon hc, ppuTick_transfer hon hc, ppuTick_hblank_visible hon hc, ppuTick_hblank_last hon hc,
      ppuTick_vblank_line hon hc, ppuTick_vblank_last hon hc⟩⟩

/-! A visible line (R360). -/

/-- Where no transfer raises, a tick is to the video unit that of a state with its registers, parameters and sink (R61). -/
theorem tick_ppuTick {s : State} (h : s.dmaSafe = true) :
    ∃ u, u.ppu = s.ppu ∧ u.params = s.params ∧ u.sink = s.sink ∧ s.tick.ppu = (ppuTick u).ppu ∧
      s.tick.sink = (ppuTick u).sink := by
  have htick : s.tick = timerTick (ppuTick (dmaTick s).state) := by
    rw [State.tick, advance, dmaTick_of_safe h]
    rfl
  have only := dmaTick_dmaOnly s
  exact ⟨_, only.ppu, only.params, only.sink, by rw [htick, timerTick_ppu], by rw [htick, timerTick_sink]⟩

/-- `t` is `s` some ticks later, with the PPU's registers `p` and no vsync called since. -/
structure LineAt (s : State) (p : Ppu) (t : State) : Prop where
  safe : t.dmaSafe = true
  params : t.params = s.params
  ppu : t.ppu = p
  vsyncs : t.sink.vsyncs = s.sink.vsyncs

/-- One tick, by what the PPU's own tick does to its registers and the sink. -/
theorem LineAt.tick {s t : State} {p q : Ppu} (h : LineAt s p t)
    (step : ∀ u : State, u.ppu = p → u.params = s.params → (ppuTick u).ppu = q ∧ (ppuTick u).sink.vsyncs = u.sink.vsyncs) :
    LineAt s q t.tick := by
  obtain ⟨u, hppu, hparams, hsink, tppu, tsink⟩ := tick_ppuTick h.safe
  obtain ⟨uppu, uvsyncs⟩ := step u (hppu.trans h.ppu) (hparams.trans h.params)
  refine ⟨tick_dmaSafe h.safe, (tick_params t).trans h.params, tppu.trans uppu, ?_⟩
  rw [tsink, uvsyncs, hsink, h.vsyncs]

section
variable {s t : State} {p : Ppu} (h : LineAt s p t) (hon : p.lcdc.getLsbD 7 = true)
include h hon

/-- Ticks that do not use up the mode's count. -/
theorem LineAt.count {n : Nat} (hn : n < p.modeCtr) : LineAt s { p with modeCtr := p.modeCtr - n } (t.ticks n) := by
  induction n with
  | zero => exact h
  | succ n ih =>
    rw [← ticks_tick]
    refine (ih (by omega)).tick fun u hu _ => ?_
    rw [ppuTick_counts (by rw [hu]; exact hon) (by rw [hu]; exact Nat.le_sub_of_add_le (by omega)), ppuCountDown, hu]
    exact ⟨rfl, rfl⟩

/-- The mode's count used up: the last of its ticks makes the transition. -/
theorem LineAt.expire {q : Ppu} (hc : 1 ≤ p.modeCtr)
    (transition : ∀ u : State, u.ppu = { p with modeCtr := 1 } → u.params = s.params →
      (ppuTick u).ppu = q ∧ (ppuTick u).sink.vsyncs = u.sink.vsyncs) : LineAt s q (t.ticks p.modeCtr) := by
  obtain ⟨n, hn⟩ : ∃ n, p.modeCtr = n + 1 := ⟨p.modeCtr - 1, by omega⟩
  have hlast := h.count hon (n := n) (by omega)
  rw [hn, Nat.add_sub_cancel_left] at hlast
  rw [hn, ← ticks_tick]
  exact hlast.tick transition

theorem LineAt.oamScan (hm : p.mode = .oamScan) (hc : 1 ≤ p.modeCtr) :
    LineAt s { p with mode := .transfer, modeCtr := s.params.xferCycles } (t.ticks p.modeCtr) :=
  h.expire hon hc fun u hu hparams => by
    rw [ppuTick_oamScan (by rw [hu]; exact hon) (by rw [hu]) (by rw [hu]; exact hm), hu, hparams]
    exact ⟨rfl, rfl⟩

theorem LineAt.transfer (hm : p.mode = .transfer) (hc : 1 ≤ p.modeCtr) :
    LineAt s { p with mode := .hblank, modeCtr := s.params.hblankCycles } (t.ticks p.modeCtr) :=
  h.expire hon hc fun u hu hparams => by
    rw [ppuTick_transfer (by rw [hu]; exact hon) (by rw [hu]) (by rw [hu]; exact hm), hu, hparams]
    exact ⟨rfl, rfl⟩

theorem LineAt.hblank (hm : p.mode = .hblank) (hc : 1 ≤ p.modeCtr) (hl : p.ly.toNat < 143) :
    LineAt s { p with ly := p.ly + 1, lycFlag := p.ly + 1 == p.lyc, mode := .oamScan, modeCtr := s.params.oamCycles }
      (t.ticks p.modeCtr) :=
  h.expire hon hc fun u hu hparams => by
    rw [ppuTick_hblank_visible (by rw [hu]; exact hon) (by rw [hu]) (by rw [hu]; exact hm) (by rw [hu]; exact hl), hu,
      hparams]
    exact ⟨rfl, rfl⟩

end

/-- Settles O45: the three modes of a line one after another, each with its whole budget. -/
theorem visibleLineTiming : Obligations.VisibleLineTiming := by
  intro s h ht hon hm hc hl
  obtain ⟨hoam, hxfer, hhblank, _⟩ := (timingOk_iff _).mp ht
  have start : LineAt s s.ppu s := ⟨h, rfl, rfl, rfl⟩
  have line := ((start.oamScan hon hm (hc ▸ hoam)).transfer hon rfl hxfer).hblank hon rfl hhblank hl
  have hsum : s.ticks (s.params.oamCycles + s.params.xferCycles + s.params.hblankCycles) =
      ((s.ticks s.ppu.modeCtr).ticks s.params.xferCycles).ticks s.params.hblankCycles := by
    rw [ticks_add, ticks_add, hc]
  rw [hsum]
  exact ⟨congrArg Ppu.mode line.ppu, congrArg Ppu.modeCtr line.ppu, congrArg Ppu.ly line.ppu, line.vsyncs⟩

end Sys2Proof.Machine
end

section
/-! PROOF. The renderer (R362 to R369): what its shared functions read from video memory and `oam`, as numbers; then a background or
window pixel, a sprite's pixel, the order of the sprites, and the line drawn. -/

namespace Sys2Proof.Machine

/-! Video memory and `oam` by address (R34). -/

theorem vram_eq (s : State) (i : Nat) : s.vram i = s.mem.read (BitVec.ofNat 16 (0x8000 + i)) := by
  rw [State.vram, BitVec.ofNat_add]
  rfl

theorem oam_eq (s : State) (i : Nat) : s.oam i = s.mem.read (BitVec.ofNat 16 (0xFE00 + i)) := by
  rw [State.oam, BitVec.ofNat_add]
  rfl

/-! Colours (R364 to R366). -/

/-- Two bits as a colour index (R365). -/
theorem flagBit_append (high low : Bool) :
    flagBit high ++ flagBit low = BitVec.ofNat 2 (2 * high.toNat + low.toNat) := by
  cases high <;> cases low <;> rfl

theorem tilePixel_eq (s : State) (t r c : Nat) :
    tilePixel s t r c = BitVec.ofNat 2 (2 * ((s.vram (16 * t + 2 * r + 1)).getLsbD (7 - c)).toNat +
      ((s.vram (16 * t + 2 * r)).getLsbD (7 - c)).toNat) :=
  flagBit_append _ _

/-- A palette's entry is two of its bits (R366). -/
theorem shade_eq (pal : Byte) (ci : BitVec 2) : shade pal ci = BitVec.ofNat 2 (pal.toNat / 4 ^ ci.toNat) := by
  apply BitVec.eq_of_toNat_eq
  rw [shade, BitVec.extractLsb'_toNat, BitVec.toNat_ofNat, Nat.shiftRight_eq_div_pow, Nat.pow_mul]

/-- The two bases of the tile numbers (R364). -/
theorem tileNumber_eq (s : State) (idx : Byte) :
    tileNumber s idx =
      if s.ppu.lcdc.getLsbD 4 then idx.toNat else if idx.toNat < 128 then 256 + idx.toNat else idx.toNat := by
  have hsigned : (256 + idx.toInt).toNat = if idx.toNat < 128 then 256 + idx.toNat else idx.toNat := by
    have := idx.isLt
    rw [BitVec.toInt_eq_toNat_cond]
    split <;> split <;> omega
  rw [tileNumber, hsigned]

/-! A pixel of the background or the window (R363). -/

theorem inWindow_iff (s : State) (x : Nat) :
    inWindow s x = true ↔ s.ppu.lcdc.getLsbD 5 = true ∧ s.ppu.wy.toNat ≤ s.ppu.ly.toNat ∧ s.ppu.wx.toNat ≤ x + 7 := by
  rw [inWindow, Bool.and_eq_true, Bool.and_eq_true, decide_eq_true_iff, decide_eq_true_iff, and_assoc]

/-- The colour index of a pixel where the background is on: the window's, or the scrolled background's (R363). -/
def bgColour (s : State) (x : Nat) : BitVec 2 :=
  if inWindow s x then
    planePixel s (mapBase (s.ppu.lcdc.getLsbD 6)) (x + 7 - s.ppu.wx.toNat) (s.ppu.ly.toNat - s.ppu.wy.toNat)
  else
    planePixel s (mapBase (s.ppu.lcdc.getLsbD 3)) ((x + s.ppu.scx.toNat) % 256) ((s.ppu.ly.toNat + s.ppu.scy.toNat) % 256)

section
variable {s : State} {x : Nat}

theorem bgPixel_off (h : s.ppu.lcdc.getLsbD 0 = false) : bgPixel s x = (0, 0) := if_pos h

theorem bgPixel_on (h : s.ppu.lcdc.getLsbD 0 = true) :
    bgPixel s x = (bgColour s x, BitVec.ofNat 2 (s.ppu.bgp.toNat / 4 ^ (bgColour s x).toNat)) := by
  rw [← shade_eq]
  exact if_neg (by rw [h]; decide)

end

/-- Settles O46: the three cases of a pixel, the tile's bytes by their addresses. -/
theorem backgroundPixel : Obligations.BackgroundPixel := by
  intro s x _ l ly window vram colour paletted
  have hcolour (second : Bool) (px py : Nat) : planePixel s (mapBase second) px py = colour second px py := by
    rw [planePixel, tilePixel_eq, tileNumber_eq, vram_eq, vram_eq, vram_eq]
    rfl
  refine ⟨bgPixel_off, fun hon hw => ?_, fun hon hw => ?_⟩ <;> rw [bgPixel_on hon, bgColour]
  · rw [if_pos ((inWindow_iff s x).mpr hw), hcolour]
  · rw [if_neg (mt (inWindow_iff s x).mp hw), hcolour]

/-! A sprite's pixel (R367, R368). -/

theorem spriteOnLine_iff (s : State) (n : Nat) :
    spriteOnLine s n = true ↔ (s.oam (4 * n)).toNat ≤ s.ppu.ly.toNat + 16 ∧
      s.ppu.ly.toNat + 16 < (s.oam (4 * n)).toNat + spriteHeight s := by
  rw [spriteOnLine, Bool.and_eq_true, decide_eq_true_iff, decide_eq_true_iff]

theorem and_0xFE_toNat (v : Byte) : (v &&& 0xFE).toNat = v.toNat / 2 * 2 := by
  revert v
  decide +kernel

/-- The row of the sprite that line `ly` is, from the top, or flipped over the whole height (R368). -/
def spriteRow (s : State) (n : Nat) : Nat :=
  let line := s.ppu.ly.toNat + 16 - (s.oam (4 * n)).toNat
  if (s.oam (4 * n + 3)).getLsbD 6 then spriteHeight s - 1 - line else line

/-- The column of the sprite that screen column `x` is, from the left, or flipped (R368). -/
def spriteColumn (s : State) (n x : Nat) : Nat :=
  let column := x + 8 - (s.oam (4 * n + 1)).toNat
  if (s.oam (4 * n + 3)).getLsbD 5 then 7 - column else column

/-- The tile of a row: a tall sprite's lower eight rows are the next tile (R368). -/
def spriteTile (s : State) (n row : Nat) : Nat :=
  if s.ppu.lcdc.getLsbD 2 then (s.oam (4 * n + 2)).toNat / 2 * 2 + row / 8 else (s.oam (4 * n + 2)).toNat

section
variable {s : State} {n x : Nat}

theorem spritePixel_outside (h : ¬ ((s.oam (4 * n + 1)).toNat ≤ x + 8 ∧ x + 8 < (s.oam (4 * n + 1)).toNat + 8)) :
    spritePixel s n x = none :=
  if_neg h

theorem spriteRow_lt (h : spriteOnLine s n = true) : spriteRow s n < spriteHeight s := by
  obtain ⟨hlo, hhi⟩ := (spriteOnLine_iff s n).mp h
  unfold spriteRow
  dsimp only
  split <;> omega

theorem spritePixel_inside (hline : spriteOnLine s n = true)
    (h : (s.oam (4 * n + 1)).toNat ≤ x + 8 ∧ x + 8 < (s.oam (4 * n + 1)).toNat + 8) :
    spritePixel s n x =
      some (tilePixel s (spriteTile s n (spriteRow s n)) (spriteRow s n % 8) (spriteColumn s n x)) := by
  refine (if_pos h).trans ?_
  show (if s.ppu.lcdc.getLsbD 2 then
      some (tilePixel s (((s.oam (4 * n + 2)) &&& 0xFE).toNat + spriteRow s n / 8) (spriteRow s n % 8) (spriteColumn s n x))
    else some (tilePixel s (s.oam (4 * n + 2)).toNat (spriteRow s n) (spriteColumn s n x))) = _
  rw [and_0xFE_toNat, spriteTile]
  split
  · rfl
  · next hshort =>
    have hrow : spriteRow s n < 8 := (if_neg hshort : spriteHeight s = 8) ▸ spriteRow_lt hline
    rw [Nat.mod_eq_of_lt hrow]

end

/-- Settles O60: the row and column over the integers are those the renderer counts from the line and column it draws. -/
theorem spritePixel_rule : Obligations.SpritePixel := by
  intro s n x _ _ entry vram tall h ly sy cx row c t low high
  have hentry (k : Nat) : entry k = s.oam (4 * n + k) := by rw [oam_eq, ← Nat.add_assoc]
  have hh : h = spriteHeight s := by
    show (if s.ppu.lcdc.getLsbD 2 = true then (16 : Int) else 8) = _
    rw [spriteHeight]
    split <;> rfl
  have hly : ly = s.ppu.ly.toNat := rfl
  have hsy : sy = (s.oam (4 * n)).toNat - 16 := congrArg (fun v : Byte => (v.toNat : Int) - 16) (hentry 0)
  have hcx : cx = x - ((s.oam (4 * n + 1)).toNat - 8 : Int) :=
    congrArg (fun v : Byte => (x : Int) - (v.toNat - 8)) (hentry 1)
  have hline : spriteOnLine s n = true ↔ sy ≤ ly ∧ ly < sy + h := by
    rw [spriteOnLine_iff]
    omega
  refine ⟨hline, fun hout => spritePixel_outside (by omega), fun hlo hhi hleft hright => ?_⟩
  have hon := hline.mpr ⟨hlo, hhi⟩
  have hrow : row = spriteRow s n := by
    show (if (entry 3).getLsbD 6 = true then h - 1 - (ly - sy) else ly - sy).toNat = _
    rw [hentry 3, spriteRow]
    split <;> omega
  have hc : c = spriteColumn s n x := by
    show (if (entry 3).getLsbD 5 = true then 7 - cx else cx).toNat = _
    rw [hentry 3, spriteColumn]
    split <;> omega
  have ht : t = spriteTile s n row := by rw [spriteTile, ← hentry 2]
  rw [spritePixel_inside hon (by omega), tilePixel_eq, vram_eq, vram_eq, ← hrow, ← hc, ← ht]

/-! The order of the sprites (R368, R369). -/

/-- Entry `n` shows with colour index `ci` at screen column `x` (R368). -/
def SpriteShows (s : State) (x n : Nat) (ci : BitVec 2) : Prop :=
  spriteOnLine s n = true ∧ spritePixel s n x = some ci ∧ ci ≠ 0 ∧
    ((s.oam (4 * n + 3)).getLsbD 7 = true → (bgPixel s x).1 = 0)

section
variable {s : State} {x n : Nat}

theorem drawSprite_shows {ci : BitVec 2} (h : SpriteShows s x n ci) (below : BitVec 2) :
    drawSprite s x (bgPixel s x).1 n below = shade (if (s.oam (4 * n + 3)).getLsbD 4 then s.ppu.obp1 else s.ppu.obp0) ci := by
  obtain ⟨hline, hpixel, hopaque, hfront⟩ := h
  have hbehind : ¬ ((s.oam (4 * n + 3)).getLsbD 7 = true ∧ (bgPixel s x).1 ≠ 0) := fun ⟨hflag, hbg⟩ => hbg (hfront hflag)
  rw [drawSprite, if_pos hline, hpixel]
  exact (if_neg hopaque).trans (if_neg hbehind)

theorem drawSprite_hidden (h : ∀ ci, ¬ SpriteShows s x n ci) (below : BitVec 2) :
    drawSprite s x (bgPixel s x).1 n below = below := by
  rw [drawSprite]
  split
  · next hline =>
    split
    · rfl
    · next ci hpixel =>
      dsimp only
      split
      · rfl
      · next hopaque =>
        refine if_pos (Classical.byContradiction fun hfront => h ci ⟨hline, hpixel, hopaque, fun hflag => ?_⟩)
        exact Classical.byContradiction fun hbg => hfront ⟨hflag, hbg⟩
  · rfl

theorem pixelShade_sprites (h : s.ppu.lcdc.getLsbD 1 = true) :
    pixelShade s x = (List.range 40).foldr (drawSprite s x (bgPixel s x).1) (bgPixel s x).2 :=
  if_pos h

end

/-- Entries that do not show leave what is below. -/
theorem foldr_hidden {s : State} {x : Nat} {entries : List Nat} (h : ∀ n ∈ entries, ∀ ci, ¬ SpriteShows s x n ci)
    (below : BitVec 2) : entries.foldr (drawSprite s x (bgPixel s x).1) below = below := by
  induction entries with
  | nil => rfl
  | cons n rest ih =>
    rw [List.foldr_cons, ih fun m hm => h m (List.mem_cons_of_mem n hm), drawSprite_hidden (h n List.mem_cons_self)]

/-- The entries before one, that one, and the entries after it. -/
theorem range_split {n k : Nat} (h : n < k) : ∃ rest, List.range k = List.range n ++ n :: rest := by
  obtain ⟨m, rfl⟩ : ∃ m, k = n + (m + 1) := ⟨k - n - 1, by omega⟩
  rw [List.range_add, List.range_succ_eq_map, List.map_cons]
  exact ⟨_, rfl⟩

/-- Settles O47: entries are drawn from the last to the first, so that the first one that shows is drawn over the others. -/
theorem spritePriority : Obligations.SpritePriority := by
  intro s x hon flags shows
  have hflags (n : Nat) : flags n = s.oam (4 * n + 3) := by rw [oam_eq, ← Nat.add_assoc]
  have hshows (n : Nat) (ci : BitVec 2) : shows n ci ↔ SpriteShows s x n ci := by
    rw [SpriteShows, ← hflags]
  refine ⟨fun n ci hn hfirst hbefore => ?_, fun hnone => ?_⟩ <;> rw [pixelShade_sprites hon]
  · obtain ⟨rest, hrange⟩ := range_split hn
    rw [hrange, List.foldr_append, List.foldr_cons, drawSprite_shows ((hshows n ci).mp hfirst), ← hflags, shade_eq]
    exact foldr_hidden (fun m hm c hc => hbefore m c (List.mem_range.mp hm) ((hshows m c).mpr hc)) _
  · exact foldr_hidden (fun m hm c hc => hnone m c (List.mem_range.mp hm) ((hshows m c).mpr hc)) _

/-! The line drawn (R362, R372). -/

/-- A line's cells are not another line's. -/
theorem lookup_cons_other {y z : Nat} (h : z ≠ y) (row : List (BitVec 2)) (fb : List (Nat × List (BitVec 2))) :
    ((y, row) :: fb).lookup z = fb.lookup z := by
  rw [List.lookup, beq_eq_false_iff_ne.mpr h]

theorem lookup_setLine_same (fb : List (Nat × List (BitVec 2))) (y : Nat) (row : List (BitVec 2)) :
    (setLine fb y row).lookup y = some row := by
  induction fb with
  | nil => exact List.lookup_cons_self
  | cons line rest ih =>
    obtain ⟨y', row'⟩ := line
    rw [setLine]
    split
    · exact List.lookup_cons_self
    · split
      · exact List.lookup_cons_self
      · next hne => rw [lookup_cons_other hne, ih]

theorem lookup_setLine_other {y z : Nat} (h : z ≠ y) (fb : List (Nat × List (BitVec 2))) (row : List (BitVec 2)) :
    (setLine fb y row).lookup z = fb.lookup z := by
  induction fb with
  | nil => exact lookup_cons_other h row []
  | cons line rest ih =>
    obtain ⟨y', row'⟩ := line
    rw [setLine]
    split
    · exact lookup_cons_other h row _
    · split
      · next heq =>
        subst heq
        rw [lookup_cons_other h, lookup_cons_other h]
      · by_cases hz : z = y'
        · subst hz
          rw [List.lookup_cons_self, List.lookup_cons_self]
        · rw [lookup_cons_other hz, lookup_cons_other hz, ih]

/-- Settles O48: the line's cells are the shades computed for it; no other line's cells and no other state are touched. -/
theorem renderLineDraws : Obligations.RenderLineDraws := by
  intro s x hx
  refine ⟨?_, fun y hy => ?_, rfl⟩
  · simp [State.pixel, renderLine, lookup_setLine_same, hx]
  · simp [State.pixel, renderLine, lookup_setLine_other hy]

end Sys2Proof.Machine
end

section
/-! PROOF. One tick for each data access (R61, R405): what the accesses and the operations made of them add to the free-running
counter where they complete, then form by form. -/

namespace Sys2Proof.Machine

/-! A store elsewhere than to `DIV` leaves the counter (R81, R313). -/

theorem ioRegAt_div {a : Word} (h : ioRegAt a = some .div) : a = 0xFF04 := by
  have table : ∀ p ∈ ioTable, p.2 = .div → p.1 = 0xFF04 := by decide
  obtain ⟨l₁, l₂, hl, _⟩ := List.lookup_eq_some_iff.mp h
  exact table (a, .div) (by simp [hl]) rfl

theorem writeReg_counter (s : State) {r : IoReg} (v : Byte) (hr : r ≠ .div) :
    (writeReg s r v).timer.counter = s.timer.counter := by
  cases r
  case div => exact absurd rfl hr
  case dma =>
    show (dmaInitialize v s).timer.counter = _
    unfold dmaInitialize
    split <;> rfl
  all_goals rfl

theorem busWrite_counter (s : State) {a : Word} (v : Byte) (ha : a ≠ 0xFF04) :
    (s.busWrite a v).timer.counter = s.timer.counter := by
  have io : (ioWrite s a v).timer.counter = s.timer.counter := by
    unfold ioWrite
    split
    · next r hr => exact writeReg_counter s v fun hdiv => ha (ioRegAt_div (hdiv ▸ hr))
    · rfl
  have control : (cartWriteControl s a v).timer.counter = s.timer.counter := by
    unfold cartWriteControl
    split <;> rfl
  have ram : (cartWriteRam s a v).timer.counter = s.timer.counter := by
    unfold cartWriteRam
    split
    · rfl
    · split <;> rfl
  unfold State.busWrite
  split
  case h_1 | h_2 => exact control
  case h_4 => exact ram
  case h_7 => split <;> rfl
  case h_8 => exact io
  all_goals rfl

/-! The accesses and what is made of them. -/

/-- Where it completes, `x` has taken `n` ticks since `s`; where it does not, a fault is latched. -/
def Spends {α : Type} (n : Nat) (s : State) : Flow α → Prop
  | .done _ t => t.timer.counter = s.timer.counter + BitVec.ofNat 16 n
  | .raised t => t.fault ≠ none

theorem spends_none {α : Type} {s t : State} (v : α) (h : t.timer.counter = s.timer.counter) : Spends 0 s (.done v t) :=
  h.trans (BitVec.add_zero _).symm

theorem Spends.bind {α β : Type} {m n : Nat} {s : State} {x : Flow α} {f : α → State → Flow β} (hx : Spends m s x)
    (hf : ∀ v t, x = .done v t → Spends n t (f v t)) : Spends (m + n) s (x.bind f) := by
  cases x with
  | raised t => exact hx
  | done v t =>
    have hn := hf v t rfl
    rw [Flow.bind_done]
    cases hu : f v t with
    | raised u => rwa [hu] at hn
    | done w u =>
      rw [hu] at hn
      show u.timer.counter = _
      rw [show u.timer.counter = _ from hn, show t.timer.counter = _ from hx, BitVec.add_assoc, BitVec.ofNat_add]

/-- An update of the state that does not touch the counter takes no tick. -/
theorem Spends.update {α β : Type} {n : Nat} {s : State} {x : Flow α} {g : α → State → State} {w : β} (hx : Spends n s x)
    (hg : ∀ v t, (g v t).timer.counter = t.timer.counter) : Spends n s (x.bind fun v t => .done w (g v t)) :=
  hx.bind fun v t _ => spends_none w (hg v t)

theorem advance_spends (s : State) : Spends 1 s (advance s) := by
  cases h : advance s with
  | done v t => exact advance_counter h
  | raised t =>
    obtain ⟨f, hf⟩ := advance_raised h
    show t.fault ≠ none
    rw [← hf]
    exact Option.some_ne_none f

theorem readByte_spends (a : Word) (s : State) : Spends 1 s (readByte a s) :=
  (advance_spends s).bind (n := 0) fun _ t _ => by
    cases rawRead t a with
    | some v => exact spends_none v rfl
    | none => exact Option.some_ne_none _

theorem writeByte_spends {a : Word} (ha : a ≠ 0xFF04) (v : Byte) (s : State) : Spends 1 s (writeByte a v s) :=
  (advance_spends s).bind (n := 0) fun _ t _ => by
    unfold rawWrite
    cases t.supported a
    · exact Option.some_ne_none _
    · exact spends_none () (busWrite_counter t v ha)

theorem readWord_spends (a : Word) (s : State) : Spends 2 s (readWord a s) :=
  (readByte_spends a s).bind (n := 1) fun _ t _ => (readByte_spends (a + 1) t).bind (n := 0) fun _ _ _ => spends_none _ rfl

theorem writeWord_spends {a : Word} (h : a ≠ 0xFF04 ∧ a + 1 ≠ 0xFF04) (v : Word) (s : State) :
    Spends 2 s (writeWord a v s) :=
  (writeByte_spends h.1 _ s).bind (n := 1) fun _ t _ => writeByte_spends h.2 _ t

theorem pushWord_spends {s : State} (h : s.cpu.sp - 2 ≠ 0xFF04 ∧ s.cpu.sp - 1 ≠ 0xFF04) (v : Word) :
    Spends 2 s (pushWord v s) :=
  writeWord_spends (a := s.cpu.sp - 2) (by rwa [word_sub_two]) v (s.setSp (s.cpu.sp - 2))

theorem popWord_spends (s : State) : Spends 2 s (popWord s) :=
  (readWord_spends s.cpu.sp s).bind (n := 0) fun _ _ _ => spends_none _ rfl

theorem returnWord_spends (s : State) : Spends 2 s (returnWord s) := (popWord_spends s).update fun _ _ => rfl

theorem accUpdate_counter (m : AccMem) (s : State) : (accUpdate m s).timer.counter = s.timer.counter := by
  cases m <;> rfl

/-! The operations. -/

/-- If the operation answers a next state without a fault, it has taken `n` ticks. -/
def Costs (n : Nat) (s : State) (r : Result) : Prop :=
  ∀ t, r = .next t → t.fault = none → t.timer.counter = s.timer.counter + BitVec.ofNat 16 n

theorem costs_outcome {α : Type} {n : Nat} {s : State} {x : Flow α} (h : Spends n s x) : Costs n s x.outcome := by
  intro t ht hf
  injection ht with ht
  subst ht
  cases x with
  | done v t => exact h
  | raised t => exact absurd hf h

section
variable {s : State}

/-- A read of the byte at `HL`, then a store there: the read leaves the pair (R186, R188, R234, R236). -/
theorem readThenWrite_spends {g : Byte → State → Flow Unit} (ha : s.pair .hl ≠ 0xFF04)
    (hg : ∀ v t, t.pair .hl ≠ 0xFF04 → Spends 1 t (g v t)) : Spends 2 s ((readByte (s.pair .hl) s).bind g) :=
  (readByte_spends _ s).bind (n := 1) fun v t ht => hg v t (by rwa [readByte_state ht, tick_pair])

theorem modify8_atHL_costs (ha : s.pair .hl ≠ 0xFF04) (f : Byte → Flags → Byte × Flags) :
    Costs 2 s (modify8 .atHL f s) :=
  costs_outcome <| readThenWrite_spends ha fun _ t h => (writeByte_spends h _ t).update fun _ _ => rfl

theorem call_costs (h : s.cpu.sp - 2 ≠ 0xFF04 ∧ s.cpu.sp - 1 ≠ 0xFF04) (nn : Word) : Costs 2 s (call nn s) :=
  costs_outcome <| (pushWord_spends h _).update fun _ _ => rfl

theorem costs_none (s : State) : Costs 0 s (.next s) := costs_outcome (x := .done () s) (spends_none () rfl)

theorem callIf_costs {cc : Cond} (nn : Word)
    (ha : s.cpu.holds cc = true → s.cpu.sp - 2 ≠ 0xFF04 ∧ s.cpu.sp - 1 ≠ 0xFF04) :
    Costs (if s.cpu.holds cc then 2 else 0) s (callIf cc nn s) := by
  unfold callIf
  split
  · next hcc => exact call_costs (ha hcc) nn
  · exact costs_none s

theorem ret_costs (s : State) : Costs 2 s (ret s) := costs_outcome (returnWord_spends s)

theorem returnIf_costs (s : State) (cc : Cond) : Costs (if s.cpu.holds cc then 2 else 0) s (returnIf cc s) := by
  unfold returnIf
  split
  · exact ret_costs s
  · exact costs_none s

end

/-- No instruction is `LD (HL),(HL)`: the byte its pattern makes is that of `HALT` (R113). -/
theorem form_ne_ld_atHL_atHL (i : Instr) : i.form ≠ .ld .atHL .atHL := by
  intro h
  have hwf : i.wellFormed = true := by
    unfold Instr.wellFormed
    split
    · cases h
    · rfl
  have hdec := decodeInvertsEncode i [] hwf
  rw [encode_of_form h] at hdec
  have hhalt : i = .halt := by
    cases hdec
    rfl
  rw [hhalt] at h
  cases h

theorem effectForm_ne_ld_atHL_atHL (i : Instr) : effectForm i ≠ .ld .atHL .atHL := by
  unfold effectForm
  split
  · exact form_ne_ld_atHL_atHL _
  · exact form_ne_ld_atHL_atHL i

/-- The forms that make a data access (R405). -/
theorem execForm_costs (f : Form) (s : State) (hne : f ≠ .ld .atHL .atHL) (hd : dataAccesses f s ≠ 0)
    (ha : 0xFF04 ∉ storesTo f s) : Costs (dataAccesses f s) s (execForm f s) := by
  have one {a : Word} (h : 0xFF04 ∉ [a]) : a ≠ 0xFF04 := by
    rintro rfl
    exact h (List.mem_singleton.mpr rfl)
  have two {a b : Word} (h : 0xFF04 ∉ [a, b]) : a ≠ 0xFF04 ∧ b ≠ 0xFF04 :=
    ⟨by rintro rfl; simp at h, by rintro rfl; simp at h⟩
  cases f
  case ld d o =>
    cases d <;> cases o
    · exact absurd rfl hd
    · exact costs_outcome <| (readByte_spends _ s).bind (n := 0) fun _ _ _ => spends_none _ rfl
    · exact costs_outcome (writeByte_spends (one ha) _ s)
    · exact absurd rfl hne
  case ldImm d n =>
    cases d
    · exact absurd rfl hd
    · exact costs_outcome (writeByte_spends (one ha) n s)
  case ldA m =>
    exact costs_outcome <| (readByte_spends _ s).update fun _ t => accUpdate_counter m (t.setReg .a _)
  case stA m => exact costs_outcome <| (writeByte_spends (one ha) _ s).update fun _ t => accUpdate_counter m t
  case ldNnSP nn => exact costs_outcome (writeWord_spends (two ha) _ s)
  case push qq => exact costs_outcome (pushWord_spends (two ha) _)
  case pop qq => exact costs_outcome <| (popWord_spends s).update fun _ _ => rfl
  case alu op o =>
    cases o
    · exact absurd rfl hd
    · exact costs_outcome <| (readByte_spends _ s).update fun _ _ => rfl
  case inc d =>
    cases d
    · exact absurd rfl hd
    · exact modify8_atHL_costs (one ha) increment8
  case dec d =>
    cases d
    · exact absurd rfl hd
    · exact modify8_atHL_costs (one ha) decrement8
  case rot k o =>
    cases o
    · exact absurd rfl hd
    · exact modify8_atHL_costs (one ha) (rotate k)
  case bit b o =>
    cases o
    · exact absurd rfl hd
    · exact costs_outcome <| (readByte_spends _ s).update fun _ _ => rfl
  case res b o =>
    cases o
    · exact absurd rfl hd
    · exact costs_outcome <| readThenWrite_spends (one ha) fun _ t h => writeByte_spends h _ t
  case set b o =>
    cases o
    · exact absurd rfl hd
    · exact costs_outcome <| readThenWrite_spends (one ha) fun _ t h => writeByte_spends h _ t
  case call nn => exact call_costs (two ha) nn
  case callCC cc nn =>
    refine callIf_costs nn fun hcc => two fun hmem => ha ?_
    show 0xFF04 ∈ if s.cpu.holds cc then [s.cpu.sp - 2, s.cpu.sp - 1] else []
    rwa [if_pos hcc]
  case ret => exact ret_costs s
  case retCC cc => exact returnIf_costs s cc
  case reti => exact costs_outcome <| (returnWord_spends s).update fun _ _ => rfl
  case rst t => exact call_costs (two ha) _
  all_goals exact absurd rfl hd

/-- Settles O33: with no data access the timer stays; else each form's accesses are added up. -/
theorem tickPerAccess : Obligations.TickPerAccess := by
  intro i s t hexec hfault hdiv
  by_cases hd : dataAccesses (effectForm i) s = 0
  · obtain ⟨⟨_, timer, _⟩, _⟩ := exec_noAccess hexec hd
    rw [timer, hd]
    exact (BitVec.add_zero _).symm
  · rw [exec_eq_effectForm] at hexec
    exact execForm_costs (effectForm i) s (effectForm_ne_ld_atHL_atHL i) hd hdiv t hexec hfault

end Sys2Proof.Machine
end
